-- ==== Sys2Proof/Word.lean ====
section
/-! DEFINITION. The byte, and the fixed-size bank of like things (points, feeders, slots, ports). -/

namespace Sys2Proof

/-- One byte of a frame; also a ring address, 0 to 255 (spec 00_scope.md 5.2). -/
abbrev Byte := BitVec 8

/-- A fixed number of like records, numbered from 0. -/
abbrev Bank (α : Type) (n : Nat) := Vector α n

end Sys2Proof
end

