-- ==== Sys2Proof/Syntax.lean ====
section
/-! DEFINITION. The commands of the part: one constructor of `Instr` per row of spec/opcode_table.json, with the
operands its rule gives it. A command that brings something from outside (a frame, a request, a line level, the
outcome of a memory write) carries it; a command that takes something the part itself holds (a presentation, a
demand, a timer) only names which. -/

namespace Sys2Proof

/-- A good ring frame without its check (spec 11.1); the check is a function of the rest (R182). -/
structure RingFrame where
  dst     : Byte
  src     : Byte
  kind    : Byte
  payload : List Byte
  deriving DecidableEq, Repr

/-- The two positions of the settings key (R156). -/
inductive KeyPos where
  | locked
  | unlocked
  deriving DecidableEq, Repr

/-- Gate unit A and gate unit B, in the order of the rectifier table (chapter 3). -/
inductive GateUnit where
  | a
  | b
  deriving DecidableEq, Repr

/-- Pilot port 1 and pilot port 2 (chapter 6). -/
inductive Port where
  | one
  | two
  deriving DecidableEq, Repr, Inhabited

/-- The two groups of commands of a slot (R75): CLOSE, OPEN and TRIP; TEST_ON and TEST_OFF. -/
inductive CmdGroup where
  | breaker
  | contactor
  deriving DecidableEq, Repr

/-- The commands, one per row of the table, in its order. -/
inductive Instr where
  /-- COLD_RESET (R159): the strap value and the key line level read at the reset, and whether the checks of the
  stored image and of the flags record are found good as they are read. -/
  | coldReset (straps : Byte) (key : KeyPos) (imageCheck : Bool) (flagsCheck : Bool)
  /-- SETTINGS_KEY (R156): the level the key line takes. -/
  | settingsKey (pos : KeyPos)
  /-- RECEPTION (R135): the bytes received on the ring input up to the end of the frame. -/
  | reception (bytes : List Byte)
  /-- TRANSMISSION_END (R144). -/
  | transmissionEnd
  /-- RING_WINDOW_END (R138). -/
  | ringWindowEnd
  /-- SAMPLE_FRAME (R2): the frame MSU takes. -/
  | sampleFrame (frame : RingFrame)
  /-- FRESHNESS_TIMEOUT (R13) of one point. -/
  | freshnessTimeout (point : Fin 32)
  /-- START_TIMEOUT (R18). -/
  | startTimeout
  /-- FEEDER_EVALUATION (R24) of one feeder, on the oldest presentation that waits for it. -/
  | feederEvaluation (feeder : Fin 8)
  /-- LINE_VOLTAGE_PRESENTATION (R36) to one feeder. -/
  | lineVoltagePresentation (feeder : Fin 8)
  /-- UNDERVOLTAGE_TIMER_EXPIRY (R36). -/
  | undervoltageTimerExpiry (feeder : Fin 8)
  /-- LOSS_TIMER_EXPIRY (R39). -/
  | lossTimerExpiry (feeder : Fin 8)
  /-- RECTIFIER_EVALUATION (R53), on the oldest presentation that waits for RCT. -/
  | rectifierEvaluation
  /-- HELD_EVALUATION (R59). -/
  | heldEvaluation
  /-- BUS_LOSS_TIMEOUT (R59). -/
  | busLossTimeout
  /-- PHASE_BACK_TIMEOUT (R64). -/
  | phaseBackTimeout
  /-- GATE_STATUS (R56): the frame RCT takes. -/
  | gateStatus (frame : RingFrame)
  /-- GATE_SILENCE_TIMEOUT (R56). -/
  | gateSilenceTimeout (gate : GateUnit)
  /-- SYNC_TIMEOUT (R57). -/
  | syncTimeout (gate : GateUnit)
  /-- MISFIRE_AGE_EXPIRY (R58). -/
  | misfireAgeExpiry
  /-- BREAKER_STATUS (R73): the frame FSQ takes. -/
  | breakerStatus (frame : RingFrame)
  /-- SLOT_FRESHNESS_TIMEOUT (R74). -/
  | slotFreshnessTimeout (slot : Fin 9)
  /-- NO_STATUS_TIMEOUT (R74). -/
  | noStatusTimeout
  /-- COMMAND_LOST (R76): the slot, and which of its two outstanding commands. -/
  | commandLost (slot : Fin 9) (group : CmdGroup)
  /-- TRIP_REPEAT (R77). -/
  | tripRepeat (slot : Fin 9)
  /-- CLOSE_TIMEOUT (R80). -/
  | closeTimeout (feeder : Fin 8)
  /-- OPEN_WATCH_EXPIRY (R80) of a feeder slot. -/
  | openWatchExpiry (slot : Fin 8)
  /-- BREAKER_FAIL (R84). -/
  | breakerFail (feeder : Fin 8)
  /-- OPENING_TIMEOUT (R86). -/
  | openingTimeout (feeder : Fin 8)
  /-- DEAD_TIME_END (R87). -/
  | deadTimeEnd (feeder : Fin 8)
  /-- REMOTE_TIMEOUT (R90). -/
  | remoteTimeout (feeder : Fin 8)
  /-- RECLAIM_END (R85). -/
  | reclaimEnd (feeder : Fin 8)
  /-- GROUP_CLOSE_TIMEOUT (R95). -/
  | groupCloseTimeout
  /-- GROUP_OPEN_WATCH_EXPIRY (R95). -/
  | groupOpenWatchExpiry
  /-- GROUP_TRIP_TIMEOUT (R95). -/
  | groupTripTimeout
  /-- TRIP_DEMAND_TAKEN (R81): FSQ takes the demand in hand of one feeder. -/
  | tripDemandTaken (feeder : Fin 8)
  /-- INTERTRIP_DEMAND_TAKEN (R129): FSQ takes an intertrip demand that SCO has presented for one feeder. -/
  | intertripDemandTaken (feeder : Fin 8)
  /-- TEST_MEASUREMENT_PRESENTATION (R108), on the oldest presentation that waits for LTU. -/
  | testMeasurementPresentation
  /-- SETTLE_END (R107). -/
  | settleEnd
  /-- CONTACTOR_TIMEOUT (R115). -/
  | contactorTimeout
  /-- STRAY_CONTACTOR_TIMEOUT (R114). -/
  | strayContactorTimeout (slot : Fin 8)
  /-- CAPTURE_ROW (R169), on the oldest presentation of the pacing point that waits for REC. -/
  | captureRow
  /-- PILOT_FRAME (R123): the bytes received on a pilot port. -/
  | pilotFrame (port : Port) (bytes : List Byte)
  /-- PILOT_FRAME_SEND (R122). -/
  | pilotFrameSend (port : Port)
  /-- PILOT_SILENCE_TIMEOUT (R125). -/
  | pilotSilenceTimeout (port : Port)
  /-- GRACE_TIMER_EXPIRY (R126). -/
  | graceTimerExpiry (port : Port)
  /-- TRANSFER_TRIP_HOLD_END (R128), of the section of one entry of the section table. -/
  | transferTripHoldEnd (entry : Fin 8)
  /-- COMMIT_COMPLETION (R153): whether the read-back verifies the write. -/
  | commitCompletion (verified : Bool)
  /-- FLAGS_WRITE_END (R158): whether the read-back matches. -/
  | flagsWriteEnd (matched : Bool)
  /-- STATION_REPORT (R181). -/
  | stationReport
  /-- MALFORMED_REQUEST (R176): a payload that holds no tag, or a tag alone. -/
  | malformedRequest (src : Byte) (payload : Option Byte)
  /-- BAD_REQUEST (R176): a code that is unknown, or arguments of another length than the code requires. -/
  | badRequest (src tag code : Byte) (args : List Byte)
  /-- IDENTIFY (R179). -/
  | identify (src tag : Byte)
  /-- READ_STATUS (R179): the part asked for. -/
  | readStatus (src tag part : Byte)
  /-- TIME_SET (R178): the new count. -/
  | timeSet (src tag : Byte) (count : BitVec 48)
  /-- RESTART (R180). -/
  | restart (src tag : Byte)
  /-- FEEDER_CLOSE (R79). -/
  | feederClose (src tag feeder : Byte)
  /-- FEEDER_OPEN (R86). -/
  | feederOpen (src tag feeder : Byte)
  /-- RESET_LOCKOUT (R91). -/
  | resetLockout (src tag feeder : Byte)
  /-- RESET_BF (R91). -/
  | resetBf (src tag feeder : Byte)
  /-- MASK_SET (R93): a bitmap of the feeders. -/
  | maskSet (src tag bitmap : Byte)
  /-- MASK_CLEAR (R93). -/
  | maskClear (src tag bitmap : Byte)
  /-- WORK_PERMIT_SET (R94). -/
  | workPermitSet (src tag feeder : Byte)
  /-- WORK_PERMIT_CLEAR (R94). -/
  | workPermitClear (src tag feeder : Byte)
  /-- READ_FEEDER (R96): 0 to 7, or 8 for the group breaker's slot. -/
  | readFeeder (src tag number : Byte)
  /-- GROUP_SELECT (R22). -/
  | groupSelect (src tag feeder selection : Byte)
  /-- RECT_START (R60). -/
  | rectStart (src tag : Byte)
  /-- RECT_STOP (R68). -/
  | rectStop (src tag : Byte)
  /-- RECT_RESET (R68). -/
  | rectReset (src tag : Byte)
  /-- TEST_CIRCUIT_RESET (R116). -/
  | testCircuitReset (src tag : Byte)
  /-- STAGE_WRITE (R149): table code, entry number, and each field as a signed 4-byte value (11.3). -/
  | stageWrite (src tag table entry : Byte) (fields : List (BitVec 32))
  /-- STAGE_READ (R150). -/
  | stageRead (src tag table entry : Byte)
  /-- STAGE_DISCARD (R150). -/
  | stageDiscard (src tag : Byte)
  /-- READ_SETTINGS (R150): the image byte is IN_USE 0 or STORED 1. -/
  | readSettings (src tag table entry image : Byte)
  /-- COMMIT (R153). -/
  | commit (src tag : Byte)
  /-- APPLY_TRIAL (R154). -/
  | applyTrial (src tag : Byte)
  /-- REVERT_TRIAL (R154). -/
  | revertTrial (src tag : Byte)
  /-- READ_EVENTS (R164). -/
  | readEvents (src tag : Byte) (first : BitVec 32) (max : Byte)
  /-- READ_ALARMS (R167). -/
  | readAlarms (src tag : Byte)
  /-- CLEAR_ALARMS (R166). -/
  | clearAlarms (src tag : Byte) (bitmap : BitVec 24)
  /-- ALARM_ENABLE_SET (R167). -/
  | alarmEnableSet (src tag : Byte) (bitmap : BitVec 24)
  /-- ALARM_ENABLE_CLEAR (R167). -/
  | alarmEnableClear (src tag : Byte) (bitmap : BitVec 24)
  /-- CAPTURE_TRIGGER (R170). -/
  | captureTrigger (src tag : Byte)
  /-- READ_CAPTURE (R172). -/
  | readCapture (src tag segment : Byte) (start : BitVec 16) (count : Byte)
  /-- READ_CAPTURE_NEXT (R172). -/
  | readCaptureNext (src tag count : Byte)
  /-- CAPTURE_RELEASE (R173). -/
  | captureRelease (src tag segment : Byte)
  /-- SNAPSHOT (R175). -/
  | snapshot (src tag : Byte)
  /-- READ_SNAPSHOT (R175). -/
  | readSnapshot (src tag : Byte)
  deriving DecidableEq, Repr

end Sys2Proof
end

