-- ==== Sys2Proof/Decode.lean ====
section
/-! DEFINITION. The part's commands have no bit encoding: every row of spec/opcode_table.json is without bits. -/

namespace Sys2Proof

/-- The command that a word spells by the table's bits: none, since no row of the table gives bits. -/
def decodeTableWord (_nbits _w : Nat) : Option Instr := none

end Sys2Proof
end

