-- ==== Sys2Proof/Machine/Arith.lean ====
section
/-! DEFINITION. The arithmetic words of spec 00_scope.md 5.4, the byte order of frames (chapter 11), the ring check
(R182), and the whole-bank operations. -/

namespace Sys2Proof.Machine

/-- Clamp: limit to the stated bounds. -/
def clamp (lo hi x : Int) : Int := max lo (min hi x)

/-- Floor of a quotient by a positive divisor. -/
def floorDiv (a b : Int) : Int := a / b

/-- Ceiling of a quotient by a positive divisor. -/
def ceilDiv (a b : Int) : Int := -((-a) / b)

/-- Trunc: quotient rounded toward zero. -/
def truncDiv (a b : Int) : Int := Int.tdiv a b

/-- A saturating count: advances by `k` and holds at `top`. -/
def satAdd (top n k : Nat) : Nat := min top (n + k)

/-- The top of a 32-bit saturating count. -/
def top32 : Nat := 4294967295

/-- The top of a 16-bit saturating count. -/
def top16 : Nat := 65535

/-- The unsigned value of a byte sequence, most significant byte first (chapter 11). -/
def natOfBytes (bs : List Byte) : Nat := bs.foldl (fun n b => n * 256 + b.toNat) 0

/-- `n` bytes of a value, most significant byte first; negative values in two's complement (chapter 11). -/
def beBytes : Nat → Int → List Byte
  | 0, _ => []
  | n + 1, x => BitVec.ofInt 8 (x / (256 : Int) ^ n) :: beBytes n x

/-- One round of the check's division by x¹⁶ + x¹² + x⁵ + 1 (R182). -/
def crcShift (c : BitVec 16) : BitVec 16 :=
  if c.getLsbD 15 then (c <<< 1) ^^^ 0x1021#16 else c <<< 1

/-- The check register after one more byte, most significant bit first (R182). -/
def crcByte (c : BitVec 16) (b : Byte) : BitVec 16 :=
  let c0 := c ^^^ (b.setWidth 16 <<< 8)
  crcShift (crcShift (crcShift (crcShift (crcShift (crcShift (crcShift (crcShift c0)))))))

/-- The 16-bit check of a byte sequence, started from 65535, with no reflection and no final inversion (R182). -/
def crc16 (bs : List Byte) : BitVec 16 := bs.foldl crcByte 0xFFFF#16

/-- A byte sequence followed by its check, high byte first (R182). -/
def withCheck (bs : List Byte) : List Byte := bs ++ beBytes 2 (crc16 bs).toNat

/-- The bytes of a ring frame as they stand on the ring (11.1). -/
def frameBytes (f : RingFrame) : List Byte :=
  withCheck ([f.dst, f.src, f.kind, BitVec.ofNat 8 f.payload.length] ++ f.payload)

/-- A 16-bit field read as a signed value (chapter 11). -/
def signed16 (hi lo : Byte) : Int := (hi ++ lo).toInt

/-- Each record of a bank replaced by its image. -/
def mapBank {α β : Type} {n : Nat} (f : α → β) (v : Bank α n) : Bank β n :=
  ⟨⟨v.toList.map f⟩, by simp⟩

/-- A bank given by its record at each number. -/
def tabulate {β : Type} {n : Nat} (f : Fin n → β) : Bank β n :=
  ⟨⟨(List.finRange n).map f⟩, by simp⟩

/-- One record of a bank replaced by its image. -/
def modifyAt {α : Type} {n : Nat} (v : Bank α n) (i : Fin n) (f : α → α) : Bank α n :=
  v.set i (f v[i])

/-- A fold over the numbers of a bank, in rising order, which is the model's order where one event acts on several of them.
DESIGN CHOICE (notes/assumptions/40.md). -/
def forEach {σ : Type} (n : Nat) (f : Fin n → σ → σ) (s : σ) : σ :=
  (List.finRange n).foldl (fun s i => f i s) s

end Sys2Proof.Machine
end

