-- ==== Sys2Proof/Machine/Image.lean ====
section
/-! DEFINITION. The settings image: its tables and their entries (R148), the accessors that give every entry as its
list of fields, the entry checks (R19, R20, R48, R99, R120, R148), and the default image (R160). -/

namespace Sys2Proof.Machine

/-- The kinds of a measurement point (chapter 1). -/
inductive PointKind where
  | feederCurrent
  | lineVoltage
  | busVoltage
  | rectCurrent
  deriving DecidableEq, Repr, Inhabited

/-- The group selection of a feeder (R22). -/
inductive Selection where
  | auto
  | normal
  | isolated
  deriving DecidableEq, Repr, Inhabited

/-- The two protection groups (chapter 2). -/
inductive Group where
  | normal
  | isolated
  deriving DecidableEq, Repr, Inhabited

/-- The station table. -/
structure StationEntry where
  stationId  : Nat
  reportDest : Byte
  deriving DecidableEq, Repr, Inhabited

/-- One Input Map entry (section 1.1). -/
structure InputEntry where
  inUse   : Bool
  head    : Byte
  channel : Nat
  kind    : PointKind
  gain    : Nat
  offset  : Int
  deriving DecidableEq, Repr, Inhabited

/-- One feeder entry (2.1.2, 4.2): currents in A, τ in s, t_loss and dead times in ms, t_reclaim and t_remote in s. -/
structure FeederEntry where
  inService      : Bool
  currentPoint   : Fin 32
  linePoint      : Fin 32
  slot           : Fin 8
  iTh            : Nat
  tau            : Nat
  tripOnLoss     : Bool
  tLoss          : Nat
  tripOnOverflow : Bool
  iMaxWp         : Nat
  defaultGroup   : Selection
  shots          : Nat
  tDead1         : Nat
  tDead2         : Nat
  tDead3         : Nat
  tReclaim       : Nat
  tRemote        : Nat
  deriving DecidableEq, Repr, Inhabited

/-- One group entry (2.1.1). -/
structure GroupEntry where
  iMax    : Nat
  iRev    : Nat
  sStart  : Nat
  sEnd    : Nat
  sTrip   : Nat
  nRate   : Nat
  dISet   : Nat
  nDly    : Nat
  nWindow : Nat
  nEnd    : Nat
  uMin    : Nat
  tUv     : Nat
  deriving DecidableEq, Repr, Inhabited

/-- One breaker entry (4.1); address 0 marks a slot not fitted. -/
structure BreakerEntry where
  address      : Byte
  tClose       : Nat
  tBf          : Nat
  hasContactor : Bool
  deriving DecidableEq, Repr, Inhabited

/-- The test circuit table (5.1). -/
structure TestEntry where
  rTest    : Nat
  rPass    : Nat
  vLive    : Nat
  vTestMin : Nat
  tSettle  : Nat
  deriving DecidableEq, Repr, Inhabited

/-- The rectifier table (3.1). -/
structure RectEntry where
  busPoint    : Fin 32
  currPoint   : Fin 32
  gateA       : Byte
  gateB       : Byte
  vSet        : Nat
  rDroop      : Nat
  vDi0        : Nat
  kP          : Nat
  kI          : Nat
  dMin        : Nat
  dMax        : Nat
  iLim        : Nat
  kCl         : Nat
  rampCl      : Nat
  rampStart   : Nat
  rampRestore : Nat
  dPb         : Nat
  tPbMax      : Nat
  iRectMax    : Nat
  autoStart   : Bool
  deriving DecidableEq, Repr, Inhabited

/-- One section entry (6.1). -/
structure SectionEntry where
  inUse     : Bool
  feeder    : Fin 8
  port      : Port
  sectionId : Byte
  deriving DecidableEq, Repr, Inhabited

/-- One manager entry (R177). -/
structure ManagerEntry where
  address   : Byte
  read      : Bool
  operate   : Bool
  configure : Bool
  deriving DecidableEq, Repr, Inhabited

/-- The capture table (section 9.3). -/
structure CaptureEntry where
  count         : Nat
  points        : Bank (Fin 32) 8
  postRows      : Nat
  maskTrip      : Bool
  maskPhaseBack : Bool
  maskTransfer  : Bool
  maskRect      : Bool
  deriving DecidableEq, Repr, Inhabited

/-- The settings image (R148). -/
structure Image where
  station  : StationEntry
  inputs   : Bank InputEntry 32
  feeders  : Bank FeederEntry 8
  groups   : Bank GroupEntry 16
  breakers : Bank BreakerEntry 9
  test     : TestEntry
  rect     : RectEntry
  firing   : Bank Nat 33
  sections : Bank SectionEntry 8
  managers : Bank ManagerEntry 4
  capture  : CaptureEntry
  deriving DecidableEq, Repr, Inhabited

/-! ### The default image -/

/-- A default Input Map entry: not in use, the other fields at the lowest value of their ranges (R160). -/
def defaultInput : InputEntry :=
  { inUse := false, head := 1, channel := 0, kind := .feederCurrent, gain := 0, offset := -32768 }

/-- A default feeder entry (R160). -/
def defaultFeeder : FeederEntry :=
  { inService := false, currentPoint := 0, linePoint := 0, slot := 0, iTh := 100, tau := 10, tripOnLoss := false,
    tLoss := 10, tripOnOverflow := false, iMaxWp := 100, defaultGroup := .auto, shots := 0, tDead1 := 100,
    tDead2 := 100, tDead3 := 100, tReclaim := 1, tRemote := 60 }

/-- A default group entry: each setting at the lowest value of its range (R160). -/
def defaultGroup : GroupEntry :=
  { iMax := 100, iRev := 0, sStart := 1, sEnd := 1, sTrip := 1, nRate := 1, dISet := 100, nDly := 0, nWindow := 0,
    nEnd := 1, uMin := 0, tUv := 10 }

/-- A default breaker entry: not fitted (R160). -/
def defaultBreaker : BreakerEntry := { address := 0, tClose := 150, tBf := 50, hasContactor := false }

/-- The default test circuit table (R160). -/
def defaultTest : TestEntry := { rTest := 1000, rPass := 100, vLive := 50, vTestMin := 100, tSettle := 100 }

/-- The two lowest addresses from 1 upward that differ from the own address (R160). -/
def defaultGates (own : Byte) : Byte × Byte :=
  if own = 1 then (2, 3) else if own = 2 then (1, 3) else (1, 2)

/-- The default rectifier table under an own address (R160). -/
def defaultRect (own : Byte) : RectEntry :=
  { busPoint := 0, currPoint := 0, gateA := (defaultGates own).1, gateB := (defaultGates own).2, vSet := 500,
    rDroop := 0, vDi0 := 500, kP := 0, kI := 0, dMin := 0, dMax := 1024, iLim := 100, kCl := 1, rampCl := 1,
    rampStart := 1, rampRestore := 1, dPb := 0, tPbMax := 60, iRectMax := 100, autoStart := false }

/-- A default section entry: not in use (R160). -/
def defaultSection : SectionEntry := { inUse := false, feeder := 0, port := .one, sectionId := 1 }

/-- An unused manager entry: address 0 with no right (R152). -/
def unusedManager : ManagerEntry := { address := 0, read := false, operate := false, configure := false }

/-- The default manager table: the wildcard, address 1 with OPERATE and CONFIGURE, and two unused entries (R160). -/
def defaultManagers : Bank ManagerEntry 4 :=
  #v[{ address := 0, read := true, operate := false, configure := false },
     { address := 1, read := false, operate := true, configure := true }, unusedManager, unusedManager]

/-- The default capture table (R160). -/
def defaultCapture : CaptureEntry :=
  { count := 1, points := tabulate fun _ => 0, postRows := 768, maskTrip := true, maskPhaseBack := true,
    maskTransfer := true, maskRect := true }

/-- The default image (R160). -/
def defaultImage (own : Byte) : Image :=
  { station := { stationId := 1, reportDest := 1 }
    inputs := tabulate fun _ => defaultInput
    feeders := tabulate fun _ => defaultFeeder
    groups := tabulate fun _ => defaultGroup
    breakers := tabulate fun _ => defaultBreaker
    test := defaultTest
    rect := defaultRect own
    firing := tabulate fun _ => 50
    sections := tabulate fun _ => defaultSection
    managers := defaultManagers
    capture := defaultCapture }

/-! ### Entries by table code and number -/

/-- The tables of the image, in the order of their codes (11.3). -/
inductive Table where
  | station
  | inputMap
  | feeder
  | groups
  | breaker
  | test
  | rectifier
  | firing
  | sections
  | manager
  | capture
  deriving DecidableEq, Repr, Inhabited

/-- The table of a table code (11.3). -/
def tableOfCode (c : Byte) : Option Table :=
  match c.toNat with
  | 0 => some .station
  | 1 => some .inputMap
  | 2 => some .feeder
  | 3 => some .groups
  | 4 => some .breaker
  | 5 => some .test
  | 6 => some .rectifier
  | 7 => some .firing
  | 8 => some .sections
  | 9 => some .manager
  | 10 => some .capture
  | _ => none

/-- The code of a table (11.3). -/
def tableCode : Table → Nat
  | .station => 0
  | .inputMap => 1
  | .feeder => 2
  | .groups => 3
  | .breaker => 4
  | .test => 5
  | .rectifier => 6
  | .firing => 7
  | .sections => 8
  | .manager => 9
  | .capture => 10

/-- The number of entries of a table (R148). -/
def tableSize : Table → Nat
  | .station => 1
  | .inputMap => 32
  | .feeder => 8
  | .groups => 16
  | .breaker => 9
  | .test => 1
  | .rectifier => 1
  | .firing => 33
  | .sections => 8
  | .manager => 4
  | .capture => 1

/-- Every table, in the order of the codes. -/
def allTables : List Table :=
  [.station, .inputMap, .feeder, .groups, .breaker, .test, .rectifier, .firing, .sections, .manager, .capture]

/-- The bytes each field of an entry takes in a response body (11.2 note 2), in the order of the setting list; its
length is the table's field count (11.3). -/
def fieldWidths : Table → List Nat
  | .station => [2, 2]
  | .inputMap => [1, 2, 2, 1, 2, 2]
  | .feeder => [1, 1, 1, 1, 2, 2, 1, 2, 1, 2, 1, 2, 2, 2, 2, 2, 2]
  | .groups => [2, 2, 2, 2, 2, 2, 2, 2, 2, 2, 2, 2]
  | .breaker => [2, 2, 2, 1]
  | .test => [4, 4, 2, 2, 2]
  | .rectifier => [1, 1, 2, 2, 2, 2, 2, 2, 2, 2, 2, 2, 2, 2, 2, 2, 2, 2, 2, 1]
  | .firing => [2]
  | .sections => [1, 1, 2, 2]
  | .manager => [2, 2]
  | .capture => [2, 1, 1, 1, 1, 1, 1, 1, 1, 2, 2]

/-- The number of fields of a table's entry (11.3). -/
def fieldCount (t : Table) : Nat := (fieldWidths t).length

/-- A flag as a field: 0 or 1 (11.3). -/
def ofFlag (b : Bool) : Int := if b then 1 else 0

/-- The code of a point kind, in the order of section 1.1. DEDUCED: the spec gives no table for it. -/
def kindCode : PointKind → Int
  | .feederCurrent => 0
  | .lineVoltage => 1
  | .busVoltage => 2
  | .rectCurrent => 3

/-- The code of a selection (R22, 11.3). -/
def selectionCode : Selection → Int
  | .auto => 0
  | .normal => 1
  | .isolated => 2

/-- The code of a group (11.3). -/
def groupCode : Group → Int
  | .normal => 0
  | .isolated => 1

/-- The number of a pilot port. -/
def portNumber : Port → Int
  | .one => 1
  | .two => 2

/-- The rights bitmap (11.3): READ 1, OPERATE 2, CONFIGURE 4. -/
def rightsCode (m : ManagerEntry) : Int := ofFlag m.read + 2 * ofFlag m.operate + 4 * ofFlag m.configure

/-- The trigger mask bitmap (11.3): PROTECTION_TRIP 1, PHASE_BACK 2, TRANSFER_TRIP 4, RECT_TRIP 8. -/
def maskCode (c : CaptureEntry) : Int :=
  ofFlag c.maskTrip + 2 * ofFlag c.maskPhaseBack + 4 * ofFlag c.maskTransfer + 8 * ofFlag c.maskRect

/-- The fields of an Input Map entry, in the order of section 1.1. -/
def inputFields (e : InputEntry) : List Int :=
  [ofFlag e.inUse, e.head.toNat, e.channel, kindCode e.kind, e.gain, e.offset]

/-- The fields of a feeder entry, in the order of R148. -/
def feederFields (e : FeederEntry) : List Int :=
  [ofFlag e.inService, e.currentPoint.val, e.linePoint.val, e.slot.val, e.iTh, e.tau, ofFlag e.tripOnLoss, e.tLoss,
   ofFlag e.tripOnOverflow, e.iMaxWp, selectionCode e.defaultGroup, e.shots, e.tDead1, e.tDead2, e.tDead3, e.tReclaim,
   e.tRemote]

/-- The fields of a group entry, in the order of 2.1.1. -/
def groupFields (e : GroupEntry) : List Int :=
  [e.iMax, e.iRev, e.sStart, e.sEnd, e.sTrip, e.nRate, e.dISet, e.nDly, e.nWindow, e.nEnd, e.uMin, e.tUv]

/-- The fields of a breaker entry, in the order of 4.1. -/
def breakerFields (e : BreakerEntry) : List Int := [e.address.toNat, e.tClose, e.tBf, ofFlag e.hasContactor]

/-- The fields of the test circuit table, in the order of 5.1. -/
def testFields (e : TestEntry) : List Int := [e.rTest, e.rPass, e.vLive, e.vTestMin, e.tSettle]

/-- The fields of the rectifier table, in the order of 3.1. -/
def rectFields (e : RectEntry) : List Int :=
  [e.busPoint.val, e.currPoint.val, e.gateA.toNat, e.gateB.toNat, e.vSet, e.rDroop, e.vDi0, e.kP, e.kI, e.dMin,
   e.dMax, e.iLim, e.kCl, e.rampCl, e.rampStart, e.rampRestore, e.dPb, e.tPbMax, e.iRectMax, ofFlag e.autoStart]

/-- The fields of a section entry, in the order of 6.1. -/
def sectionFields (e : SectionEntry) : List Int :=
  [ofFlag e.inUse, e.feeder.val, portNumber e.port, e.sectionId.toNat]

/-- The fields of a manager entry (R148, 11.3). -/
def managerFields (e : ManagerEntry) : List Int := [e.address.toNat, rightsCode e]

/-- The fields of the capture table (R148). -/
def captureFields (e : CaptureEntry) : List Int :=
  (e.count : Int) :: e.points.toList.map (fun p => (p.val : Int)) ++ [(e.postRows : Int), maskCode e]

/-- The fields of one entry of an image, or none where the table has no such entry (R150). -/
def entryFields (m : Image) (t : Table) (n : Nat) : Option (List Int) :=
  match t with
  | .station => if n = 0 then some [(m.station.stationId : Int), (m.station.reportDest.toNat : Int)] else none
  | .inputMap => m.inputs[n]?.map inputFields
  | .feeder => m.feeders[n]?.map feederFields
  | .groups => m.groups[n]?.map groupFields
  | .breaker => m.breakers[n]?.map breakerFields
  | .test => if n = 0 then some (testFields m.test) else none
  | .rectifier => if n = 0 then some (rectFields m.rect) else none
  | .firing => m.firing[n]?.map fun a => [(a : Int)]
  | .sections => m.sections[n]?.map sectionFields
  | .manager => m.managers[n]?.map managerFields
  | .capture => if n = 0 then some (captureFields m.capture) else none

/-- The bytes of an entry in a response body (11.2 note 2). -/
def entryBytes (t : Table) (fields : List Int) : List Byte :=
  ((fieldWidths t).zip fields).flatMap fun p => beBytes p.1 p.2

/-- The number of entries in which two images differ (R149, R162). -/
def entriesDiffering (a b : Image) : Nat :=
  (allTables.map fun t =>
    ((List.range (tableSize t)).filter fun n => decide (entryFields a t n ≠ entryFields b t n)).length).sum

/-! ### Entry checks -/

/-- A value within a range. -/
def within (lo hi x : Int) : Bool := decide (lo ≤ x) && decide (x ≤ hi)

/-- The flag of a field. -/
def flagOf (x : Int) : Option Bool := if x = 0 then some false else if x = 1 then some true else none

/-- The measurement point of a field. -/
def pointOf (x : Int) : Option (Fin 32) :=
  if h : x.toNat < 32 then (if 0 ≤ x then some ⟨x.toNat, h⟩ else none) else none

/-- The feeder or slot, 0 to 7, of a field. -/
def eightOf (x : Int) : Option (Fin 8) :=
  if h : x.toNat < 8 then (if 0 ≤ x then some ⟨x.toNat, h⟩ else none) else none

/-- The point kind of a field. -/
def kindOf (x : Int) : Option PointKind :=
  if x = 0 then some .feederCurrent else if x = 1 then some .lineVoltage else if x = 2 then some .busVoltage
  else if x = 3 then some .rectCurrent else none

/-- The selection of a field (R22). -/
def selectionOf (x : Int) : Option Selection :=
  if x = 0 then some .auto else if x = 1 then some .normal else if x = 2 then some .isolated else none

/-- The pilot port of a field. -/
def portOf (x : Int) : Option Port := if x = 1 then some .one else if x = 2 then some .two else none

/-- A value kept only where it passes a check. -/
def keepIf {α : Type} (ok : Bool) (a : α) : Option α := if ok then some a else none

/-- The Input Map entry check: its ranges (section 1.1, R148). -/
def inputCheck (e : InputEntry) : Bool :=
  within 1 254 e.head.toNat && within 0 7 e.channel && within 0 65535 e.gain && within (-32768) 32767 e.offset

/-- The feeder entry check: ranges of 2.1.2 and 4.2, and R20. -/
def feederCheck (e : FeederEntry) : Bool :=
  within 100 32767 e.iTh && within 10 3600 e.tau && within 10 5000 e.tLoss && within 100 32767 e.iMaxWp &&
  within 0 3 e.shots && within 100 60000 e.tDead1 && within 100 60000 e.tDead2 && within 100 60000 e.tDead3 &&
  within 1 600 e.tReclaim && within 1 600 e.tRemote && decide (10000 * e.tau ≤ 64 * (e.iTh * e.iTh))

/-- The group entry check: ranges of 2.1.1 and the relations of R19. -/
def groupCheck (e : GroupEntry) : Bool :=
  within 100 32767 e.iMax && (decide (e.iRev = 0) || within 100 32767 e.iRev) && within 1 2000 e.sStart &&
  within 1 e.sStart e.sEnd && within e.sStart 10000 e.sTrip && within 1 200 e.nRate && within 100 30000 e.dISet &&
  within 0 1000 e.nDly && within e.nDly 10000 e.nWindow && within 1 64 e.nEnd && within 0 2000 e.uMin &&
  within 10 10000 e.tUv

/-- The breaker entry check: ranges of 4.1. -/
def breakerCheck (e : BreakerEntry) : Bool :=
  within 0 254 e.address.toNat && within 20 1000 e.tClose && within 20 500 e.tBf

/-- The test circuit entry check (R99). -/
def testCheck (e : TestEntry) : Bool :=
  within 1000 100000 e.rTest && within 100 1000000 e.rPass && within 50 1000 e.vLive && within 100 1000 e.vTestMin &&
  within 20 2000 e.tSettle

/-- The rectifier entry check (R48). -/
def rectCheck (e : RectEntry) : Bool :=
  within 1 254 e.gateA.toNat && within 1 254 e.gateB.toNat && decide (e.gateA ≠ e.gateB) && within 500 1000 e.vSet &&
  within 0 200 e.rDroop && within 500 1200 e.vDi0 && within 0 65535 e.kP && within 0 65535 e.kI &&
  within 0 e.dMax e.dMin && within e.dMin 1024 e.dMax && within 100 32767 e.iLim && within 1 255 e.kCl &&
  within 1 64 e.rampCl && within 1 64 e.rampStart && within 1 64 e.rampRestore && within 0 e.dMin e.dPb &&
  within 10 500 e.tPbMax && within 100 32767 e.iRectMax

/-- The firing angle check (R48). -/
def firingCheck (a : Nat) : Bool := within 50 1500 a

/-- The section entry check (R120). -/
def sectionCheck (e : SectionEntry) : Bool := within 1 255 e.sectionId.toNat

/-- The manager entry check (R148). -/
def managerCheck (e : ManagerEntry) : Bool := within 0 254 e.address.toNat

/-- The capture entry check (R148). -/
def captureCheck (e : CaptureEntry) : Bool := within 1 8 e.count && within 0 1023 e.postRows

/-- The station entry check (R148). -/
def stationCheck (e : StationEntry) : Bool := within 1 65535 e.stationId && within 1 254 e.reportDest.toNat

/-- A byte-sized field. -/
def byteOf (x : Int) : Option Byte := keepIf (within 0 255 x) (BitVec.ofInt 8 x)

/-- A count field: not negative. -/
def natOf (x : Int) : Option Nat := keepIf (decide (0 ≤ x)) x.toNat

/-- An Input Map entry written from its fields, if it passes its check. -/
def inputOfFields : List Int → Option InputEntry
  | [u, h, c, k, g, o] => do
    let e : InputEntry :=
      { inUse := ← flagOf u, head := ← byteOf h, channel := ← natOf c, kind := ← kindOf k, gain := ← natOf g, offset := o }
    keepIf (inputCheck e) e
  | _ => none

/-- A feeder entry written from its fields, if it passes its check. -/
def feederOfFields : List Int → Option FeederEntry
  | [sv, cp, lp, sl, ith, tau, tol, tl, too, wp, dg, sh, d1, d2, d3, rc, rm] => do
    let e : FeederEntry :=
      { inService := ← flagOf sv, currentPoint := ← pointOf cp, linePoint := ← pointOf lp, slot := ← eightOf sl,
        iTh := ← natOf ith, tau := ← natOf tau, tripOnLoss := ← flagOf tol, tLoss := ← natOf tl,
        tripOnOverflow := ← flagOf too, iMaxWp := ← natOf wp, defaultGroup := ← selectionOf dg, shots := ← natOf sh,
        tDead1 := ← natOf d1, tDead2 := ← natOf d2, tDead3 := ← natOf d3, tReclaim := ← natOf rc, tRemote := ← natOf rm }
    keepIf (feederCheck e) e
  | _ => none

/-- A group entry written from its fields, if it passes its check (R19). -/
def groupOfFields : List Int → Option GroupEntry
  | [a, b, c, d, e, f, g, h, i, j, k, l] => do
    let r : GroupEntry :=
      { iMax := ← natOf a, iRev := ← natOf b, sStart := ← natOf c, sEnd := ← natOf d, sTrip := ← natOf e,
        nRate := ← natOf f, dISet := ← natOf g, nDly := ← natOf h, nWindow := ← natOf i, nEnd := ← natOf j,
        uMin := ← natOf k, tUv := ← natOf l }
    keepIf (groupCheck r) r
  | _ => none

/-- A breaker entry written from its fields, if it passes its check. -/
def breakerOfFields : List Int → Option BreakerEntry
  | [a, c, b, h] => do
    let e : BreakerEntry :=
      { address := ← byteOf a, tClose := ← natOf c, tBf := ← natOf b, hasContactor := ← flagOf h }
    keepIf (breakerCheck e) e
  | _ => none

/-- The test circuit table written from its fields, if it passes its check (R99). -/
def testOfFields : List Int → Option TestEntry
  | [a, b, c, d, e] => do
    let r : TestEntry :=
      { rTest := ← natOf a, rPass := ← natOf b, vLive := ← natOf c, vTestMin := ← natOf d, tSettle := ← natOf e }
    keepIf (testCheck r) r
  | _ => none

/-- The rectifier table written from its fields, if it passes its check (R48). -/
def rectOfFields : List Int → Option RectEntry
  | [bp, cp, ga, gb, vs, rd, vd, kp, ki, dn, dx, il, kc, rc, rs, rr, pb, tp, im, au] => do
    let e : RectEntry :=
      { busPoint := ← pointOf bp, currPoint := ← pointOf cp, gateA := ← byteOf ga, gateB := ← byteOf gb,
        vSet := ← natOf vs, rDroop := ← natOf rd, vDi0 := ← natOf vd, kP := ← natOf kp, kI := ← natOf ki,
        dMin := ← natOf dn, dMax := ← natOf dx, iLim := ← natOf il, kCl := ← natOf kc, rampCl := ← natOf rc,
        rampStart := ← natOf rs, rampRestore := ← natOf rr, dPb := ← natOf pb, tPbMax := ← natOf tp,
        iRectMax := ← natOf im, autoStart := ← flagOf au }
    keepIf (rectCheck e) e
  | _ => none

/-- A section entry written from its fields, if it passes its check (R120). -/
def sectionOfFields : List Int → Option SectionEntry
  | [u, f, p, i] => do
    let e : SectionEntry :=
      { inUse := ← flagOf u, feeder := ← eightOf f, port := ← portOf p, sectionId := ← byteOf i }
    keepIf (sectionCheck e) e
  | _ => none

/-- A manager entry written from its fields, if it passes its check. -/
def managerOfFields : List Int → Option ManagerEntry
  | [a, r] => do
    let rights ← keepIf (within 0 7 r) r.toNat
    let e : ManagerEntry :=
      { address := ← byteOf a, read := rights.testBit 0, operate := rights.testBit 1, configure := rights.testBit 2 }
    keepIf (managerCheck e) e
  | _ => none

/-- The capture table written from its fields, if it passes its check. -/
def captureOfFields : List Int → Option CaptureEntry
  | [c, p0, p1, p2, p3, p4, p5, p6, p7, r, k] => do
    let mask ← keepIf (within 0 15 k) k.toNat
    let e : CaptureEntry :=
      { count := ← natOf c,
        points := #v[← pointOf p0, ← pointOf p1, ← pointOf p2, ← pointOf p3, ← pointOf p4, ← pointOf p5, ← pointOf p6,
                     ← pointOf p7],
        postRows := ← natOf r, maskTrip := mask.testBit 0, maskPhaseBack := mask.testBit 1,
        maskTransfer := mask.testBit 2, maskRect := mask.testBit 3 }
    keepIf (captureCheck e) e
  | _ => none

/-- The station table written from its fields, if it passes its check. -/
def stationOfFields : List Int → Option StationEntry
  | [i, d] => do
    let e : StationEntry := { stationId := ← natOf i, reportDest := ← byteOf d }
    keepIf (stationCheck e) e
  | _ => none

/-- A firing angle written from its field, if it passes its check (R48). -/
def firingOfFields : List Int → Option Nat
  | [a] => do
    let x ← natOf a
    keepIf (firingCheck x) x
  | _ => none

/-- An entry written into a bank, or none where the bank has no such number. -/
def writeBank {α : Type} {n : Nat} (v : Bank α n) (i : Nat) (a : α) : Option (Bank α n) :=
  if h : i < n then some (v.set i a) else none

/-- An image with one entry written from its fields, or none where the table has no such entry or the entry fails its
check (R148, R149). -/
def writeEntry (m : Image) (t : Table) (n : Nat) (fields : List Int) : Option Image :=
  match t with
  | .station => do
    let e ← stationOfFields fields
    if n = 0 then some { m with station := e } else none
  | .inputMap => do return { m with inputs := ← writeBank m.inputs n (← inputOfFields fields) }
  | .feeder => do return { m with feeders := ← writeBank m.feeders n (← feederOfFields fields) }
  | .groups => do return { m with groups := ← writeBank m.groups n (← groupOfFields fields) }
  | .breaker => do return { m with breakers := ← writeBank m.breakers n (← breakerOfFields fields) }
  | .test => do
    let e ← testOfFields fields
    if n = 0 then some { m with test := e } else none
  | .rectifier => do
    let e ← rectOfFields fields
    if n = 0 then some { m with rect := e } else none
  | .firing => do return { m with firing := ← writeBank m.firing n (← firingOfFields fields) }
  | .sections => do return { m with sections := ← writeBank m.sections n (← sectionOfFields fields) }
  | .manager => do return { m with managers := ← writeBank m.managers n (← managerOfFields fields) }
  | .capture => do
    let e ← captureOfFields fields
    if n = 0 then some { m with capture := e } else none

/-- Every entry of an image passes its entry check (R148, R159). -/
def entriesPass (m : Image) : Bool :=
  stationCheck m.station && m.inputs.toList.all inputCheck && m.feeders.toList.all feederCheck &&
  m.groups.toList.all groupCheck && m.breakers.toList.all breakerCheck && testCheck m.test && rectCheck m.rect &&
  m.firing.toList.all firingCheck && m.sections.toList.all sectionCheck && m.managers.toList.all managerCheck &&
  captureCheck m.capture

/-! ### Reading the image -/

/-- The group entry of a feeder and group: numbered 2 × feeder + group (11.3). -/
def groupEntry (m : Image) (f : Fin 8) (g : Group) : GroupEntry :=
  match g with
  | .normal => m.groups[2 * f.val]
  | .isolated => m.groups[2 * f.val + 1]

/-- A slot is fitted while its entry carries an address (chapter 4). -/
def fitted (m : Image) (k : Fin 9) : Bool := decide (m.breakers[k].address ≠ 0)

/-- The slot of a feeder, as a number 0 to 8. -/
def slotOf (m : Image) (f : Fin 8) : Fin 9 := (m.feeders[f].slot).castSucc

/-- The in-service feeder whose entry names a feeder slot (R152 lets at most one). -/
def feederOfSlot (m : Image) (k : Fin 9) : Option (Fin 8) :=
  (List.finRange 8).find? fun f => m.feeders[f].inService && decide (slotOf m f = k)

/-- A configured slot: fitted, with its feeder in service, or slot 8 when fitted (chapter 4). -/
def configured (m : Image) (k : Fin 9) : Bool := fitted m k && (decide (k = 8) || (feederOfSlot m k).isSome)

/-- The slot of a DISABLED feeder (R73, R78): a feeder out of service names it and none in service does.
DESIGN CHOICE (notes/assumptions/43.md). -/
def disabledSlot (m : Image) (k : Fin 9) : Bool :=
  (feederOfSlot m k).isNone && (List.finRange 8).any fun f => decide (slotOf m f = k)

/-- A slot that LTU may send a TEST_OFF on entry into OUT_OF_SERVICE (R115): a fitted one that is not the slot of a DISABLED
feeder (R78). -/
def releasable (m : Image) (k : Fin 9) : Bool := fitted m k && !disabledSlot m k

/-- A configured feeder slot with a test contactor (chapter 5). -/
def contactorSlot (m : Image) (k : Fin 9) : Bool :=
  configured m k && decide (k ≠ 8) && m.breakers[k].hasContactor

/-- The in-use section entry of a feeder, by number (chapter 6). -/
def sectionOf (m : Image) (f : Fin 8) : Option (Fin 8) :=
  (List.finRange 8).find? fun i => m.sections[i].inUse && decide (m.sections[i].feeder = f)

/-- A port is configured while an in-use section entry names it (R120). -/
def portConfigured (m : Image) (p : Port) : Bool :=
  m.sections.toList.any fun e => e.inUse && decide (e.port = p)

/-- A head is mapped while an in-use Input Map entry names it (R1). -/
def mappedHead (m : Image) (a : Byte) : Bool := m.inputs.toList.any fun e => e.inUse && decide (e.head = a)

/-- The points that a head feeds (R2), in rising point number, an order that R2 leaves open.
DESIGN CHOICE (notes/assumptions/10.md). -/
def pointsOfHead (m : Image) (a : Byte) : List (Fin 32) :=
  (List.finRange 32).filter fun p => m.inputs[p].inUse && decide (m.inputs[p].head = a)

/-- The address of a gate unit (chapter 3). -/
def gateAddress (m : Image) : GateUnit → Byte
  | .a => m.rect.gateA
  | .b => m.rect.gateB

/-- The pacing point: the first capture channel (section 9.3). -/
def pacingPoint (m : Image) : Fin 32 := m.capture.points[0]

/-- The capture channels: the first `count` points (section 9.3). -/
def captureChannels (m : Image) : List (Fin 32) := m.capture.points.toList.take m.capture.count

/-- The dead time of an index, in ms (R87). -/
def deadTime (e : FeederEntry) (index : Nat) : Nat :=
  if index ≤ 1 then e.tDead1 else if index = 2 then e.tDead2 else e.tDead3

end Sys2Proof.Machine
end

