-- ==== Sys2Proof/Machine/Types.lean ====
section
/-! DEFINITION. The records each block of the part keeps (spec 00_scope.md 2.2), as plain data. Times are
microseconds of elapsed time since the cold reset; a timer is the elapsed time at which it started, or stopped. -/

namespace Sys2Proof.Machine

/-- A timer: running since an elapsed time, or stopped. -/
abbrev Timer := Option Nat

/-! ### Names and codes -/

/-- The causes and detail codes of 11.5, in the order of their numbers from 1. -/
inductive Cause where
  | ioc | iocRev | didt | deltaI | thermal | overflow | measLoss | intertrip | selfTrip
  | misfire | gateSync | busMeas | phaseBackFailed | breakerFailBackup | groupBreakerOpen
  | request | restart | auto | closeFail | feederTrip | rectOvercurrent | silent | lost
  | pass | fail | live | noCurrent
  | rectNotRegulating | deference | strayContactor | settings | opened | closed
  | silence | idConflict | idChange | flagSet | flagClear
  | locked | unlocked
  | protectionTrip | phaseBack | transferTrip | rectTrip | manual
  deriving DecidableEq, Repr

/-- The settings reasons (11.3). -/
inductive Reason where
  | point | slot | address | firing | sections | manager | liveFeeder | liveSlot | liveRectifier | verify
  deriving DecidableEq, Repr

/-- The feeder states, in the order of 11.4. -/
inductive FeederState where
  | unresolved | disabled | opened | testWait | testing | closing | closed | opening | tripping | deadTime
  | remoteWait | lockout | breakerFail
  deriving DecidableEq, Repr

/-- The point states, in the order of 11.4. -/
inductive PointState where
  | unmapped | warming | fresh | stale
  deriving DecidableEq, Repr

/-- A code of an event's cause list (11.5). -/
inductive Code where
  | cause (c : Cause)
  | reason (r : Reason)
  | pointState (p : PointState)
  | feederState (f : FeederState)
  deriving DecidableEq, Repr

/-- The event kinds, numbered from 1 in the order of 11.5: the order in which their logging rules stand. -/
inductive EventKind where
  | pointOverflow | pointResync | pointStale | startTimeout
  | groupSelect | groupChange | thermalAlarm | lineUndervoltage
  | gateFault | rectStart | rectStop | rectRunning | phaseBack | rectRestored | rectTrip | rectReset
  | statusLost | tripCoilFault | commandLost | closeFail | breakerFail | feederTrip | uncommandedOpen | reclaimEnd
  | feederOpened | testFailed | closeHeld | uncommandedClose | remoteLockout | linkLost | remoteTimeout
  | feederLockout | maskChange | workPermit
  | lineTest | testStart | testAbort | testContactorStray | testCircuitFault | testCircuitReset
  | idConflict | pilotUp | pilotDown | sectionMissing | unknownSection | transferTripOut | transferTripIn
  | ringDegraded | ringRecovered | ringOverrun | strapAddressInvalid
  | commitStart | commitDone | commitFailed | trialApplied | trialReverted | settingsKey | flagsWriteFailed
  | storeInvalid | flagsInvalid
  | alarmsCleared | alarmEnable | captureMissed | captureFrozen | captureReleased
  | timeSet | restart
  deriving DecidableEq, Repr

/-- The source of an event (section 9.1). -/
inductive Source where
  | feeder (f : Fin 8)
  | slot (k : Fin 9)
  | rectifier
  | testCircuit
  | pilot (p : Port)
  | ring
  | settings
  | part
  deriving DecidableEq, Repr

/-- The detail fields of an event record (section 9.1); a field the logging rule does not name is absent. -/
structure Detail where
  causes     : List Code := []
  current    : Option Int := none
  voltage    : Option Int := none
  group      : Option Group := none
  shot       : Option Nat := none
  resistance : Option (Nat × Bool) := none
  tag        : Option Nat := none
  point      : Option (Fin 32) := none
  number     : Option Nat := none
  deriving DecidableEq, Repr

/-- An event record (section 9.1). -/
structure EventRec where
  number  : BitVec 32
  time    : BitVec 48
  timeSet : Bool
  source  : Source
  kind    : EventKind
  detail  : Detail
  deriving DecidableEq, Repr

/-- The 24 alarms, in the order of section 9.2. -/
inductive Alarm where
  | storeInvalid | commitFailed | trialActive | timeNotSet | mpStale | mpOverflow | feederLockout | breakerFail
  | closeFail | breakerUnresolved | thermal | lineUndervoltage | rectTripped | gateFault | testCircuitFault
  | pilot1Down | pilot2Down | ringDegraded | ringOverrun | captureFull | workPermitActive | commandLost
  | liveSourceUnknown | startTimeout
  deriving DecidableEq, Repr

/-! ### RP -/

/-- The queue the arbiter's turn names (R144). -/
inductive Turn where
  | forward
  | control
  deriving DecidableEq, Repr

/-- The ring port (chapter 7). -/
structure RingPort where
  own          : Byte
  straps       : Byte
  trip         : List (Fin 9 × RingFrame)
  forward      : List RingFrame
  control      : List RingFrame
  report       : List RingFrame
  sending      : Option RingFrame
  turn         : Turn
  windowStart  : Nat
  windowBad    : Nat
  windowOver   : Nat
  lastBad      : Nat
  lastOver     : Nat
  degraded     : Bool
  good         : Nat
  bad          : Nat
  addressErr   : Nat
  stripped     : Nat
  taken        : Nat
  forwarded    : Nat
  unexpected   : Nat
  overruns     : Nat
  cmdsLost     : Nat
  heldOver     : Nat
  repsSkipped  : Nat
  respsDropped : Nat
  deriving DecidableEq, Repr

/-! ### MSU -/

/-- A point record (section 1.4); the last value is slot 0 of the history, and is absent with it. -/
structure Point where
  state      : PointState
  history    : List Int
  seq        : Option (BitVec 16)
  warm       : Nat
  saturating : Bool
  overflow   : Bool
  freshness  : Timer
  freshSince : Bool
  deriving DecidableEq, Repr

/-- Who a value is presented to (R15). -/
inductive Target where
  | current (f : Fin 8)
  | line (f : Fin 8)
  | rectifier
  | lineTest
  | capture
  deriving DecidableEq, Repr

/-- A point as read: its state, and its last value or absent (R15, R175). -/
structure SnapPoint where
  state : PointState
  value : Option Int
  deriving DecidableEq, Repr

/-- A presentation of a point's new value (R15), from its making until its block takes it, with the point's history
(R26, R31, R108) and the points of its head (R4) as the frame left them (notes/assumptions/10.md). -/
structure Presentation where
  target     : Target
  point      : Fin 32
  value      : Int
  state      : PointState
  advance    : Nat
  resync     : Bool
  saturating : Bool
  history    : List Int
  frame      : List (Fin 32 × SnapPoint)
  deriving DecidableEq, Repr

/-- The measurement unit: the points, the frames RP has handed over, the presentations not yet taken, and the
start-up check (R18). -/
structure Msu where
  points        : Bank Point 32
  frames        : List RingFrame
  presentations : List Presentation
  startRunning  : Bool
  startSet      : List (Fin 32)
  deriving DecidableEq, Repr

/-! ### FPR -/

/-- The rise record (section 2.2): I_start, n, c and e are held while RISING. -/
inductive Rise where
  | quiet
  | rising (iStart : Int) (n c e : Nat)
  deriving DecidableEq, Repr

/-- A trip demand (R42). -/
structure TripDemand where
  causes  : List Cause
  current : Option Int
  group   : Group
  time    : BitVec 48
  timeSet : Bool
  deriving DecidableEq, Repr

/-- A protection record (section 2.2); the demand in hand is set while `demand` holds one. -/
structure Protection where
  selection    : Selection
  groupInUse   : Option Group
  rise         : Rise
  theta        : Int
  blockSum     : Int
  blockCount   : Nat
  thermalAlarm : Bool
  inhibit      : Bool
  uvTimer      : Timer
  uvCondition  : Bool
  lossTimer    : Timer
  demand       : Option TripDemand
  deriving DecidableEq, Repr

/-! ### RCT -/

/-- The rectifier states with the start phase of STARTING (section 3.2). -/
inductive RectState where
  | stopped
  | waitBreaker
  | ramp
  | regulating
  | limiting
  | phaseBack
  | restoring
  | tripped
  deriving DecidableEq, Repr

/-- A breaker's position as reported (4.1), in the order of its codes (11.2). -/
inductive Position where
  | opened | closed | moving | fault
  deriving DecidableEq, Repr

/-- A gate unit's record (R56, R57): the silence timer, whether it has reached 5 ms, the sync timer, and the latest
sync report (SYNC is true). -/
structure Gate where
  silence : Timer
  silent  : Bool
  sync    : Timer
  report  : Option Bool
  deriving DecidableEq, Repr

/-- Rectifier control (chapter 3). `autoStart` is the auto_start setting that the latest arming took (R62, R69). -/
structure Rect where
  state       : RectState
  xi          : Int
  dCl         : Int
  dSs         : Option Int
  dRest       : Option Int
  out         : Option Int
  alpha       : Option Int
  dReg        : Int
  vRef        : Int
  err         : Int
  vBus        : Int
  iRect       : Int
  pbTimer     : Timer
  busLoss     : Timer
  held        : Timer
  gateA       : Gate
  gateB       : Gate
  misfires    : List (Nat × Nat)
  lastTrip    : Option Cause
  autoArmed   : Bool
  autoStart   : Bool
  groupPos    : Option Position
  frames      : List RingFrame
  deriving DecidableEq, Repr

/-! ### FSQ -/

/-- The breaker commands (chapter 4). -/
inductive BrkCmd where
  | close | open | trip | testOn | testOff
  deriving DecidableEq, Repr

/-- The reported values of a slot: its latest accepted status (R73). -/
structure StatusReport where
  position    : Position
  selfTrip    : Bool
  contactorOn : Bool
  echoed      : Byte
  coilHealthy : Bool
  deriving DecidableEq, Repr

/-- An outstanding command (R75): its tag, whether it is echoed, when it was issued, and its echo timer. `sentAt` of a TRIP
is the time of its latest placing (R77), and of a command issued again at a warm reset that of the original issue (R118). -/
structure Command where
  cmd    : BrkCmd
  tag    : Byte
  echoed : Bool
  sentAt : Nat
  echo   : Timer
  deriving DecidableEq, Repr

/-- A breaker slot record (R73). `lastGroup` is the group of the latest command issued (R75). -/
structure Slot where
  report       : Option StatusReport
  statusSeen   : Bool
  freshness    : Timer
  unknown      : Bool
  nextTag      : Byte
  breakerCmd   : Option Command
  contactorCmd : Option Command
  lastGroup    : CmdGroup
  openWatch    : Timer
  deriving DecidableEq, Repr

/-- The two classes of a close attempt (chapter 4). -/
inductive CloseClass where
  | operator
  | reclose
  deriving DecidableEq, Repr

/-- The last trip record (section 4.2). -/
structure TripRecord where
  causes  : List Cause
  current : Option Int
  group   : Group
  time    : BitVec 48
  timeSet : Bool
  deriving DecidableEq, Repr

/-- A feeder record (section 4.2). `fromClosed` marks an UNRESOLVED that a warm reset took from CLOSED (R78). -/
structure Feeder where
  state         : FeederState
  cls           : Option CloseClass
  mask          : Bool
  permit        : Bool
  lockoutFlag   : Bool
  shots         : Nat
  deadIndex     : Option Nat
  deadElapsed   : Bool
  recloseActive : Bool
  reclaim       : Timer
  stateTimer    : Timer
  withinReclaim : Bool
  fromClosed    : Bool
  lastTrip      : Option TripRecord
  closes        : Nat
  trips         : Nat
  wear          : Nat
  deriving DecidableEq, Repr

/-- The command state of slot 8 (R95). -/
inductive GroupState where
  | idle | closing | tripping | failed
  deriving DecidableEq, Repr

/-- The feeder sequencer (chapter 4). `noStatusDue` is set once 100 ms have passed since the cold reset (R74). -/
structure Fsq where
  slots       : Bank Slot 9
  feeders     : Bank Feeder 8
  groupState  : GroupState
  groupTimer  : Timer
  intertrips  : List (Fin 8)
  noStatusDue : Bool
  frames      : List RingFrame
  deriving DecidableEq, Repr

/-! ### LTU -/

/-- The circuit states, in the order of 11.4. -/
inductive CircuitState where
  | idle | connecting | settling | measuring | disconnecting | outOfService
  deriving DecidableEq, Repr

/-- The results of a line test (R109). -/
inductive TestResult where
  | pass | fail | live | noCurrent
  deriving DecidableEq, Repr

/-- A completed measurement (R109): the two averages, and R_line with its CLAMPED mark where computed. -/
structure Measured where
  result     : TestResult
  lineAvg    : Int
  busAvg     : Int
  resistance : Option (Nat × Bool)
  deriving DecidableEq, Repr

/-- What is presented to FSQ when the contactor reports OFF (section 5.2). -/
inductive TestOutcome where
  | none
  | requeue
  | result (m : Measured)
  deriving DecidableEq, Repr

/-- The test record (section 5.2). -/
structure TestRecord where
  feeder  : Option (Fin 8)
  cls     : CloseClass
  slot    : Fin 8
  stage   : Timer
  lineSum : Int
  busSum  : Int
  count   : Nat
  bus     : Option Int
  outcome : TestOutcome
  deriving DecidableEq, Repr

/-- The line test unit (chapter 5). A stray contactor carries the start of its 50 ms limit (R114). -/
structure Ltu where
  circuit  : CircuitState
  record   : Option TestRecord
  queue    : List (Fin 8 × CloseClass)
  strays   : List (Fin 8 × Nat)
  lastTest : Option (Fin 8 × Measured)
  deriving DecidableEq, Repr

/-! ### SCO -/

/-- The end states, in the order of 11.4. -/
inductive EndState where
  | none | fed | tripped | testing | waiting | held
  deriving DecidableEq, Repr

/-- A pilot link record (section 6.4), with the elapsed time from which its frame period runs and the latest frame put
on the port. -/
structure Link where
  up        : Bool
  remoteId  : Option Nat
  lastSeq   : Option (BitVec 16)
  run       : Nat
  silence   : Timer
  conflict  : Bool
  grace     : Timer
  unknown   : List (Byte × Bool)
  outSeq    : BitVec 16
  discarded : Nat
  period    : Nat
  sent      : Option (List Byte)
  deriving DecidableEq, Repr

/-- A section record (section 6.2); the local end state is a function of the feeder's state (R121). -/
structure SectionRec where
  remote : EndState
  hold   : Timer
  flag   : Bool
  deriving DecidableEq, Repr

/-- The section coordinator: a link record per port and a section record per entry of the section table. -/
structure Sco where
  link1    : Link
  link2    : Link
  sections : Bank SectionRec 8
  deriving DecidableEq, Repr

/-! ### SST -/

/-- The settings state other than COMMITTING: what a commit came from (R153). -/
inductive BaseSettings where
  | stored | trial | default
  deriving DecidableEq, Repr

/-- The settings state (chapter 8). -/
inductive SettingsState where
  | base (b : BaseSettings)
  | committing (from_ : BaseSettings)
  deriving DecidableEq, Repr

/-- The store arbiter's state (R157). -/
inductive ArbiterState where
  | idle | image | flags
  deriving DecidableEq, Repr

/-- The settings store (chapter 8). `stored` and the flags record are the non-volatile memory with their marks;
`writeStart` is when the write in progress began; `lastCommit` is the outcome of the latest commit: no reason when it
was done, the reason when it failed. -/
structure Sst where
  inUse         : Image
  staging       : Option Image
  stored        : Image
  storedValid   : Bool
  reference     : Image
  refDefault    : Bool
  settings      : SettingsState
  key           : KeyPos
  flagsLockout  : Bank Bool 8
  flagsPermit   : Bank Bool 8
  flagsValid    : Bool
  arbiter       : ArbiterState
  writeStart    : Timer
  imageWaiting  : Bool
  flagsPending  : Bool
  flagsRetry    : Bool
  lastCommit    : Option (Option Reason)
  deriving DecidableEq, Repr

/-! ### REC -/

/-- The segment states, in the order of 11.4. -/
inductive SegState where
  | free | recording | post | frozen
  deriving DecidableEq, Repr

/-- One channel of a row: the state mark (NONE is absent) and the value (R169). -/
structure Channel where
  mark  : Option PointState
  value : Int
  deriving DecidableEq, Repr

/-- A capture row (R169). -/
structure Row where
  advance  : Nat
  resync   : Bool
  channels : List Channel
  deriving DecidableEq, Repr

/-- The header of a triggered segment (R170, R171); the record number is given on freezing. -/
structure Header where
  record     : Nat
  cause      : Cause
  time       : BitVec 48
  timeSet    : Bool
  hasTrigger : Bool
  validRows  : Nat
  triggerRow : Option Nat
  postRows   : Nat
  channels   : List (Fin 32)
  deriving DecidableEq, Repr

/-- A capture segment: its rows are held oldest first. -/
structure Segment where
  state     : SegState
  rows      : List Row
  header    : Option Header
  postCount : Nat
  deriving DecidableEq, Repr

/-- The read pointer (R172). -/
structure ReadPtr where
  segment : Fin 4
  record  : Nat
  row     : Nat
  deriving DecidableEq, Repr

/-- A snapshot (R175). -/
structure Snapshot where
  time    : BitVec 48
  timeSet : Bool
  points  : Bank SnapPoint 32
  thetas  : Bank Int 8
  rect    : RectState
  out     : Option Int
  alpha   : Option Int
  deriving DecidableEq, Repr

/-- The records unit (chapter 9); the log holds its records oldest first. -/
structure Records where
  log       : List EventRec
  latest    : BitVec 32
  latched   : BitVec 24
  enabled   : BitVec 24
  segments  : Bank Segment 4
  frozen    : Nat
  readPtr   : Option ReadPtr
  snapshot  : Option Snapshot
  deriving DecidableEq, Repr

/-! ### MGT -/

/-- Management (chapter 10): station time, the request frames RP has handed over, and the station report. `reportDue`
is when the next report comes due. -/
structure Mgt where
  time        : BitVec 48
  timeSet     : Bool
  requests    : List RingFrame
  malformed   : Nat
  reportCount : BitVec 16
  reportDue   : Nat
  warmReset   : Option Nat
  deriving DecidableEq, Repr

end Sys2Proof.Machine
end

