-- ==== Sys2Proof/Machine/Initial.lean ====
section
/-! DEFINITION. The values a cold reset gives each block's records (R17, R45, R70, R98, R118, R133, R146, R159, R168,
R174, R175, R176, R178, R181). -/

namespace Sys2Proof.Machine

/-- A point record after a reset, from its Input Map entry (R17); a warm reset keeps the two flags. -/
def restartedPoint (e : InputEntry) (now : Nat) (overflow freshSince : Bool) : Point :=
  { state := if e.inUse then .warming else .unmapped
    history := []
    seq := none
    warm := 0
    saturating := false
    overflow := overflow
    freshness := if e.inUse then some now else none
    freshSince := freshSince }

/-- MSU after a cold reset (R17, R18). -/
def coldMsu (m : Image) : Msu :=
  { points := tabulate fun p => restartedPoint m.inputs[p] 0 false false
    frames := []
    presentations := []
    startRunning := true
    startSet := [] }

/-- A protection record after a cold reset (R45). -/
def coldProtection (e : FeederEntry) : Protection :=
  { selection := e.defaultGroup, groupInUse := none, rise := .quiet, theta := 0, blockSum := 0, blockCount := 0,
    thermalAlarm := false, inhibit := false, uvTimer := none, uvCondition := false, lossTimer := none, demand := none }

/-- A gate unit's record after a cold reset: the silence timer runs from 0 (R70). -/
def coldGate : Gate := { silence := some 0, silent := false, sync := none, report := none }

/-- RCT after a cold reset (R70). The held evaluation of an unmapped bus voltage point is timed from the reset. -/
def coldRect (m : Image) : Rect :=
  { state := .stopped, xi := 0, dCl := m.rect.dMax, dSs := none, dRest := none, out := none, alpha := none, dReg := 0,
    vRef := 0, err := 0, vBus := 0, iRect := 0, pbTimer := none, busLoss := none,
    held := if m.inputs[m.rect.busPoint].inUse then none else some 0,
    gateA := coldGate, gateB := coldGate, misfires := [], lastTrip := none, autoArmed := true,
    autoStart := m.rect.autoStart, groupPos := none,
    frames := [] }

/-- A slot record after a cold reset (R98). -/
def coldSlot : Slot :=
  { report := none, statusSeen := false, freshness := none, unknown := false, nextTag := 0, breakerCmd := none,
    contactorCmd := none, lastGroup := .breaker, openWatch := none }

/-- A feeder record after a cold reset, with its two persistent flags (R98). -/
def coldFeeder (e : FeederEntry) (lockoutFlag permit : Bool) : Feeder :=
  { state := if e.inService then .unresolved else .disabled
    cls := none, mask := true, permit := permit, lockoutFlag := lockoutFlag, shots := e.shots, deadIndex := none,
    deadElapsed := false, recloseActive := false, reclaim := none, stateTimer := none, withinReclaim := false,
    fromClosed := false, lastTrip := none, closes := 0, trips := 0, wear := 0 }

/-- FSQ after a cold reset, before the TEST_OFF commands of R98 are issued. -/
def coldFsq (m : Image) (lockout permit : Bank Bool 8) : Fsq :=
  { slots := tabulate fun _ => coldSlot
    feeders := tabulate fun f => coldFeeder m.feeders[f] lockout[f] permit[f]
    groupState := .idle, groupTimer := none, intertrips := [], noStatusDue := false, frames := [] }

/-- LTU after a cold reset (R100, R101, R118). -/
def coldLtu : Ltu := { circuit := .idle, record := none, queue := [], strays := [], lastTest := none }

/-- A pilot link record after a cold reset (R133), or at the switch that makes its port configured (R132). -/
def coldLink (now : Nat) : Link :=
  { up := false, remoteId := none, lastSeq := none, run := 0, silence := none, conflict := false, grace := some now,
    unknown := [], outSeq := 0, discarded := 0, period := now, sent := none }

/-- A section record after a cold reset (R133). -/
def coldSection : SectionRec := { remote := .none, hold := none, flag := false }

/-- SCO after a cold reset (R133). -/
def coldSco : Sco := { link1 := coldLink 0, link2 := coldLink 0, sections := tabulate fun _ => coldSection }

/-- The own address that a strap value gives (R145). -/
def ownAddress (straps : Byte) : Byte := if straps = 0 ∨ straps = 255 then 254 else straps

/-- RP after a cold reset (R145, R146, R147). -/
def coldRp (straps : Byte) : RingPort :=
  { own := ownAddress straps, straps := straps, trip := [], forward := [], control := [], report := [], sending := none,
    turn := .forward, windowStart := 0, windowBad := 0, windowOver := 0, lastBad := 0, lastOver := 0, degraded := false,
    good := 0, bad := 0, addressErr := 0, stripped := 0, taken := 0, forwarded := 0, unexpected := 0, overruns := 0,
    cmdsLost := 0, heldOver := 0, repsSkipped := 0, respsDropped := 0 }

/-- An empty segment (R174). -/
def freeSegment : Segment := { state := .free, rows := [], header := none, postCount := 0 }

/-- A segment that begins recording with no rows (R171, R174). -/
def recordingSegment : Segment := { freeSegment with state := .recording }

/-- REC after a cold reset (R163, R168, R174, R175), before the conditions found active are latched. -/
def coldRecords : Records :=
  { log := [], latest := 0, latched := 0, enabled := 0xFFFFFF#24,
    segments := #v[recordingSegment, freeSegment, freeSegment, freeSegment], frozen := 0, readPtr := none,
    snapshot := none }

/-- MGT after a cold reset (R176, R178, R181): the first report comes due at 10 ms, and the requests in hand are dropped.
DESIGN CHOICE (notes/assumptions/19.md). -/
def coldMgt : Mgt :=
  { time := 0, timeSet := false, requests := [], malformed := 0, reportCount := 0, reportDue := 10000, warmReset := none }

end Sys2Proof.Machine
end

