-- ==== Sys2Proof/Machine/State.lean ====
section
/-! DEFINITION. The state of the part: every block's records, the elapsed time, and the queue of commands that wait. -/

namespace Sys2Proof.Machine

/-- The reasons a step can fault. The spec gives every command of the table an effect in every state, so no meaning
raises one. -/
inductive Fault where
  /-- Raised by nothing: the part has no fault of its own (safe). -/
  | none
  deriving DecidableEq, Repr

/-- The reasons a step can be refused. -/
inductive Refusal where
  /-- The command has no meaning yet; answered by exec's own arms only, and by none of them now (safe). -/
  | notModelled (mnemonic : String)
  deriving DecidableEq, Repr

/-- The state of the part (spec 00_scope.md 2.2). `pending` is the queue of commands that wait, first in first out;
`now` is the elapsed time since the cold reset, in µs; `freeCount` numbers the free values taken so far. -/
structure State where
  pending   : List Instr
  now       : Nat
  rp        : RingPort
  msu       : Msu
  fpr       : Bank Protection 8
  rct       : Rect
  fsq       : Fsq
  ltu       : Ltu
  sco       : Sco
  sst       : Sst
  recs      : Records
  mgt       : Mgt
  freeCount : Nat
  deriving DecidableEq, Repr

/-- The strap value of `State.reset`. DESIGN CHOICE (notes/assumptions/1.md). -/
def resetStraps : Byte := 254

/-- The settings store after a cold reset that finds no loadable image and no valid flags record: the default image,
every work permit set, and the flags write of R159 begun. -/
def resetSst : Sst :=
  { inUse := defaultImage (ownAddress resetStraps), staging := none, stored := defaultImage (ownAddress resetStraps),
    storedValid := false, reference := defaultImage (ownAddress resetStraps), refDefault := true,
    settings := .base .default, key := .locked, flagsLockout := tabulate fun _ => false,
    flagsPermit := tabulate fun _ => true, flagsValid := false, arbiter := .flags, writeStart := some 0,
    imageWaiting := false, flagsPending := false, flagsRetry := false, lastCommit := none }

/-- The two events of that cold reset: STORE_INVALID and FLAGS_INVALID (R159). -/
def resetLog : List EventRec :=
  [{ number := 1, time := 0, timeSet := false, source := .settings, kind := .storeInvalid, detail := {} },
   { number := 2, time := 0, timeSet := false, source := .settings, kind := .flagsInvalid, detail := {} }]

/-- The latches of that cold reset: STORE_INVALID, TIME_NOT_SET and WORK_PERMIT_ACTIVE (R168). -/
def resetLatched : BitVec 24 := 0x100009#24

/-- The machine right after a cold reset with a store that holds nothing valid (notes/assumptions/1.md). -/
def State.reset : State :=
  { pending := []
    now := 0
    rp := coldRp resetStraps
    msu := coldMsu (defaultImage (ownAddress resetStraps))
    fpr := tabulate fun f => coldProtection (defaultImage (ownAddress resetStraps)).feeders[f]
    rct := coldRect (defaultImage (ownAddress resetStraps))
    fsq := coldFsq (defaultImage (ownAddress resetStraps)) (tabulate fun _ => false) (tabulate fun _ => true)
    ltu := coldLtu
    sco := coldSco
    sst := resetSst
    recs := { coldRecords with log := resetLog, latest := 2, latched := resetLatched }
    mgt := coldMgt
    freeCount := 0 }

end Sys2Proof.Machine
end

