-- ==== Sys2Proof/Machine/Codes.lean ====
section
/-! DEFINITION. The numeric codes of chapter 11: states (11.4), causes, details and event kinds (11.5), results,
reasons and request codes (11.3), frame kinds and payload codes (11.1, 11.2). -/

namespace Sys2Proof.Machine

/-- The code of a cause: numbered from 1 in the order of 11.5. -/
def causeCode : Cause → Nat
  | .ioc => 1
  | .iocRev => 2
  | .didt => 3
  | .deltaI => 4
  | .thermal => 5
  | .overflow => 6
  | .measLoss => 7
  | .intertrip => 8
  | .selfTrip => 9
  | .misfire => 10
  | .gateSync => 11
  | .busMeas => 12
  | .phaseBackFailed => 13
  | .breakerFailBackup => 14
  | .groupBreakerOpen => 15
  | .request => 16
  | .restart => 17
  | .auto => 18
  | .closeFail => 19
  | .feederTrip => 20
  | .rectOvercurrent => 21
  | .silent => 22
  | .lost => 23
  | .pass => 24
  | .fail => 25
  | .live => 26
  | .noCurrent => 27
  | .rectNotRegulating => 28
  | .deference => 29
  | .strayContactor => 30
  | .settings => 31
  | .opened => 32
  | .closed => 33
  | .silence => 34
  | .idConflict => 35
  | .idChange => 36
  | .flagSet => 37
  | .flagClear => 38
  | .locked => 39
  | .unlocked => 40
  | .protectionTrip => 41
  | .phaseBack => 42
  | .transferTrip => 43
  | .rectTrip => 44
  | .manual => 45

/-- The code of a settings reason (11.3). -/
def reasonCode : Reason → Nat
  | .point => 1
  | .slot => 2
  | .address => 3
  | .firing => 4
  | .sections => 5
  | .manager => 6
  | .liveFeeder => 7
  | .liveSlot => 8
  | .liveRectifier => 9
  | .verify => 10

/-- The code of a feeder state (11.4). -/
def feederStateCode : FeederState → Nat
  | .unresolved => 0
  | .disabled => 1
  | .opened => 2
  | .testWait => 3
  | .testing => 4
  | .closing => 5
  | .closed => 6
  | .opening => 7
  | .tripping => 8
  | .deadTime => 9
  | .remoteWait => 10
  | .lockout => 11
  | .breakerFail => 12

/-- The code of a point state (11.4). -/
def pointStateCode : PointState → Nat
  | .unmapped => 0
  | .warming => 1
  | .fresh => 2
  | .stale => 3

/-- The number of an event kind: from 1 in the order in which the logging rules stand (11.5). -/
def eventKindCode : EventKind → Nat
  | .pointOverflow => 1
  | .pointResync => 2
  | .pointStale => 3
  | .startTimeout => 4
  | .groupSelect => 5
  | .groupChange => 6
  | .thermalAlarm => 7
  | .lineUndervoltage => 8
  | .gateFault => 9
  | .rectStart => 10
  | .rectStop => 11
  | .rectRunning => 12
  | .phaseBack => 13
  | .rectRestored => 14
  | .rectTrip => 15
  | .rectReset => 16
  | .statusLost => 17
  | .tripCoilFault => 18
  | .commandLost => 19
  | .closeFail => 20
  | .breakerFail => 21
  | .feederTrip => 22
  | .uncommandedOpen => 23
  | .reclaimEnd => 24
  | .feederOpened => 25
  | .testFailed => 26
  | .closeHeld => 27
  | .uncommandedClose => 28
  | .remoteLockout => 29
  | .linkLost => 30
  | .remoteTimeout => 31
  | .feederLockout => 32
  | .maskChange => 33
  | .workPermit => 34
  | .lineTest => 35
  | .testStart => 36
  | .testAbort => 37
  | .testContactorStray => 38
  | .testCircuitFault => 39
  | .testCircuitReset => 40
  | .idConflict => 41
  | .pilotUp => 42
  | .pilotDown => 43
  | .sectionMissing => 44
  | .unknownSection => 45
  | .transferTripOut => 46
  | .transferTripIn => 47
  | .ringDegraded => 48
  | .ringRecovered => 49
  | .ringOverrun => 50
  | .strapAddressInvalid => 51
  | .commitStart => 52
  | .commitDone => 53
  | .commitFailed => 54
  | .trialApplied => 55
  | .trialReverted => 56
  | .settingsKey => 57
  | .flagsWriteFailed => 58
  | .storeInvalid => 59
  | .flagsInvalid => 60
  | .alarmsCleared => 61
  | .alarmEnable => 62
  | .captureMissed => 63
  | .captureFrozen => 64
  | .captureReleased => 65
  | .timeSet => 66
  | .restart => 67

/-- The number of an alarm (section 9.2). -/
def alarmNumber : Alarm → Nat
  | .storeInvalid => 0
  | .commitFailed => 1
  | .trialActive => 2
  | .timeNotSet => 3
  | .mpStale => 4
  | .mpOverflow => 5
  | .feederLockout => 6
  | .breakerFail => 7
  | .closeFail => 8
  | .breakerUnresolved => 9
  | .thermal => 10
  | .lineUndervoltage => 11
  | .rectTripped => 12
  | .gateFault => 13
  | .testCircuitFault => 14
  | .pilot1Down => 15
  | .pilot2Down => 16
  | .ringDegraded => 17
  | .ringOverrun => 18
  | .captureFull => 19
  | .workPermitActive => 20
  | .commandLost => 21
  | .liveSourceUnknown => 22
  | .startTimeout => 23

/-- Every alarm, in the order of its number. -/
def allAlarms : List Alarm :=
  [.storeInvalid, .commitFailed, .trialActive, .timeNotSet, .mpStale, .mpOverflow,
   .feederLockout, .breakerFail, .closeFail, .breakerUnresolved, .thermal, .lineUndervoltage,
   .rectTripped, .gateFault, .testCircuitFault, .pilot1Down, .pilot2Down, .ringDegraded,
   .ringOverrun, .captureFull, .workPermitActive, .commandLost, .liveSourceUnknown, .startTimeout]

/-- The byte of a code of a cause list: a settings reason plus 100, a state plus 200 (11.5). -/
def codeByte : Code → Nat
  | .cause c => causeCode c
  | .reason r => 100 + reasonCode r
  | .pointState p => 200 + pointStateCode p
  | .feederState f => 200 + feederStateCode f

/-- The code of a rectifier state (11.4); both start phases are STARTING. -/
def rectStateCode : RectState → Nat
  | .stopped => 0
  | .waitBreaker => 1
  | .ramp => 1
  | .regulating => 2
  | .limiting => 3
  | .phaseBack => 4
  | .restoring => 5
  | .tripped => 6

/-- The code of a circuit state (11.4). -/
def circuitCode : CircuitState → Nat
  | .idle => 0
  | .connecting => 1
  | .settling => 2
  | .measuring => 3
  | .disconnecting => 4
  | .outOfService => 5

/-- The code of an end state (11.4). -/
def endStateCode : EndState → Nat
  | .none => 0
  | .fed => 1
  | .tripped => 2
  | .testing => 3
  | .waiting => 4
  | .held => 5

/-- The end state that a code carries in a pilot item; NONE is never carried (R123). -/
def endStateOf (c : Nat) : Option EndState :=
  match c with
  | 1 => some .fed
  | 2 => some .tripped
  | 3 => some .testing
  | 4 => some .waiting
  | 5 => some .held
  | _ => none

/-- The code of the settings state (11.4): STORED, TRIAL, DEFAULT, COMMITTING. -/
def settingsCode : SettingsState → Nat
  | .base .stored => 0
  | .base .trial => 1
  | .base .default => 2
  | .committing _ => 3

/-- The code of the state a commit came from (11.4). -/
def baseCode (b : BaseSettings) : Nat := settingsCode (.base b)

/-- The code of a segment state (11.4). -/
def segStateCode : SegState → Nat
  | .free => 0
  | .recording => 1
  | .post => 2
  | .frozen => 3

/-- The code of a breaker position (11.2). -/
def positionCode : Position → Nat
  | .opened => 0
  | .closed => 1
  | .moving => 2
  | .fault => 3

/-- The position of a code (11.2). -/
def positionOf (c : Nat) : Option Position :=
  match c with
  | 0 => some .opened
  | 1 => some .closed
  | 2 => some .moving
  | 3 => some .fault
  | _ => none

/-- The code of a breaker command (11.2). -/
def cmdCode : BrkCmd → Nat
  | .close => 1
  | .open => 2
  | .trip => 3
  | .testOn => 4
  | .testOff => 5

/-- The group of a command (R75). -/
def cmdGroup : BrkCmd → CmdGroup
  | .close | .open | .trip => .breaker
  | .testOn | .testOff => .contactor

/-- The code of a close class, in the order of the feeder record's table (section 4.2). DESIGN CHOICE: the spec gives
none (notes/assumptions/8.md). -/
def classCode : CloseClass → Nat
  | .operator => 0
  | .reclose => 1

/-- The cause of a test result (11.5). -/
def resultCause : TestResult → Cause
  | .pass => .pass
  | .fail => .fail
  | .live => .live
  | .noCurrent => .noCurrent

/-- The frame kinds of 11.1. -/
def kindSample : Byte := 1
/-- BREAKER_COMMAND (11.1). -/
def kindBreakerCommand : Byte := 2
/-- BREAKER_STATUS (11.1). -/
def kindBreakerStatus : Byte := 3
/-- GATE_SETPOINT (11.1). -/
def kindGateSetpoint : Byte := 4
/-- GATE_STATUS (11.1). -/
def kindGateStatus : Byte := 5
/-- MGMT_REQUEST (11.1). -/
def kindRequest : Byte := 6
/-- MGMT_RESPONSE (11.1). -/
def kindResponse : Byte := 7
/-- STATION_REPORT (11.1). -/
def kindStationReport : Byte := 8

/-- The result codes (11.3). -/
inductive Result where
  | ok | busy | refused | badRequest | badArg | notAuthorised | locked | masked | wrongState | notPermitted
  | alreadyLatched
  deriving DecidableEq, Repr

/-- The code of a result (11.3). -/
def resultCode : Result → Nat
  | .ok => 0
  | .busy => 1
  | .refused => 2
  | .badRequest => 3
  | .badArg => 4
  | .notAuthorised => 5
  | .locked => 6
  | .masked => 7
  | .wrongState => 8
  | .notPermitted => 9
  | .alreadyLatched => 10

/-- The rights of a requester (R177). -/
inductive Right where
  | read | operate | configure
  deriving DecidableEq, Repr

/-- The requests of 11.3. -/
inductive Request where
  | identify | readStatus | timeSet | restart
  | feederClose | feederOpen | resetLockout | resetBf | maskSet | maskClear | workPermitSet | workPermitClear
  | readFeeder | groupSelect
  | rectStart | rectStop | rectReset | testCircuitReset
  | stageWrite | stageRead | stageDiscard | commit | applyTrial | revertTrial | readSettings
  | readEvents | readAlarms | clearAlarms | alarmEnableSet | alarmEnableClear | captureTrigger | readCapture
  | readCaptureNext | captureRelease | snapshot | readSnapshot
  deriving DecidableEq, Repr

/-- Every request, in the order of its code. -/
def allRequests : List Request :=
  [.identify, .readStatus, .timeSet, .restart, .feederClose, .feederOpen,
   .resetLockout, .resetBf, .maskSet, .maskClear, .workPermitSet, .workPermitClear,
   .readFeeder, .groupSelect, .rectStart, .rectStop, .rectReset, .testCircuitReset,
   .stageWrite, .stageRead, .stageDiscard, .commit, .applyTrial, .revertTrial,
   .readSettings, .readEvents, .readAlarms, .clearAlarms, .alarmEnableSet, .alarmEnableClear,
   .captureTrigger, .readCapture, .readCaptureNext, .captureRelease, .snapshot, .readSnapshot]

/-- The code of a request (11.3). -/
def requestCode : Request → Nat
  | .identify => 1
  | .readStatus => 2
  | .timeSet => 3
  | .restart => 4
  | .feederClose => 16
  | .feederOpen => 17
  | .resetLockout => 18
  | .resetBf => 19
  | .maskSet => 20
  | .maskClear => 21
  | .workPermitSet => 22
  | .workPermitClear => 23
  | .readFeeder => 24
  | .groupSelect => 32
  | .rectStart => 40
  | .rectStop => 41
  | .rectReset => 42
  | .testCircuitReset => 48
  | .stageWrite => 64
  | .stageRead => 65
  | .stageDiscard => 66
  | .commit => 67
  | .applyTrial => 68
  | .revertTrial => 69
  | .readSettings => 70
  | .readEvents => 80
  | .readAlarms => 81
  | .clearAlarms => 82
  | .alarmEnableSet => 83
  | .alarmEnableClear => 84
  | .captureTrigger => 85
  | .readCapture => 86
  | .readCaptureNext => 87
  | .captureRelease => 88
  | .snapshot => 89
  | .readSnapshot => 90

/-- The argument bytes a request requires (11.3); STAGE_WRITE's depend on its table. -/
def requestLength : Request → Option Nat
  | .identify => some 0
  | .readStatus => some 1
  | .timeSet => some 6
  | .restart => some 0
  | .feederClose => some 1
  | .feederOpen => some 1
  | .resetLockout => some 1
  | .resetBf => some 1
  | .maskSet => some 1
  | .maskClear => some 1
  | .workPermitSet => some 1
  | .workPermitClear => some 1
  | .readFeeder => some 1
  | .groupSelect => some 2
  | .rectStart => some 0
  | .rectStop => some 0
  | .rectReset => some 0
  | .testCircuitReset => some 0
  | .stageWrite => none
  | .stageRead => some 2
  | .stageDiscard => some 0
  | .commit => some 0
  | .applyTrial => some 0
  | .revertTrial => some 0
  | .readSettings => some 3
  | .readEvents => some 5
  | .readAlarms => some 0
  | .clearAlarms => some 3
  | .alarmEnableSet => some 3
  | .alarmEnableClear => some 3
  | .captureTrigger => some 0
  | .readCapture => some 4
  | .readCaptureNext => some 1
  | .captureRelease => some 1
  | .snapshot => some 0
  | .readSnapshot => some 0

/-- The right a request needs (R177). -/
def requestRight : Request → Right
  | .identify => .read
  | .readStatus => .read
  | .timeSet => .operate
  | .restart => .configure
  | .feederClose => .operate
  | .feederOpen => .operate
  | .resetLockout => .operate
  | .resetBf => .operate
  | .maskSet => .operate
  | .maskClear => .operate
  | .workPermitSet => .operate
  | .workPermitClear => .operate
  | .readFeeder => .read
  | .groupSelect => .operate
  | .rectStart => .operate
  | .rectStop => .operate
  | .rectReset => .operate
  | .testCircuitReset => .operate
  | .stageWrite => .configure
  | .stageRead => .read
  | .stageDiscard => .configure
  | .commit => .configure
  | .applyTrial => .configure
  | .revertTrial => .configure
  | .readSettings => .read
  | .readEvents => .read
  | .readAlarms => .read
  | .clearAlarms => .operate
  | .alarmEnableSet => .operate
  | .alarmEnableClear => .operate
  | .captureTrigger => .operate
  | .readCapture => .read
  | .readCaptureNext => .read
  | .captureRelease => .operate
  | .snapshot => .read
  | .readSnapshot => .read

/-- The request of a request code (11.3). -/
def requestOf (c : Byte) : Option Request := allRequests.find? fun r => decide (requestCode r = c.toNat)

/-- The arguments of a STAGE_WRITE have the length of their table (11.3, R176). A table code that is unknown fails
later, as BAD_ARG; its length is then that of whole fields. -/
def stageWriteLengthOk (table : Byte) (fieldBytes : Nat) : Bool :=
  match tableOfCode table with
  | some t => decide (fieldBytes = 4 * fieldCount t)
  | none => decide (fieldBytes % 4 = 0)

/-- A request's form is bad (R176 step 2): its code is unknown, or its arguments have another length than the code
requires. -/
def badForm (code : Byte) (args : List Byte) : Bool :=
  match requestOf code with
  | none => true
  | some .stageWrite =>
    match args with
    | table :: _ :: rest => !stageWriteLengthOk table rest.length
    | _ => true
  | some r =>
    match requestLength r with
    | some n => decide (args.length ≠ n)
    | none => true

end Sys2Proof.Machine
end

