-- ==== Sys2Proof/Machine/Ops.lean ====
section
/-! DEFINITION. The named operations every block uses: the records of State read and written, elapsed and station
time, the event log, pulse alarms, and the readings of one block's state that other blocks make. -/

namespace Sys2Proof.Machine

/-! ### Records of State -/

/-- The in-use image. -/
abbrev State.img (s : State) : Image := s.sst.inUse

/-- The point record of a measurement point. -/
abbrev State.point (s : State) (p : Fin 32) : Point := s.msu.points[p]

/-- The protection record of a feeder. -/
abbrev State.prot (s : State) (f : Fin 8) : Protection := s.fpr[f]

/-- The slot record of a breaker slot. -/
abbrev State.slot (s : State) (k : Fin 9) : Slot := s.fsq.slots[k]

/-- The feeder record of a feeder. -/
abbrev State.feeder (s : State) (f : Fin 8) : Feeder := s.fsq.feeders[f]

/-- The link record of a pilot port. -/
def State.link (s : State) : Port → Link
  | .one => s.sco.link1
  | .two => s.sco.link2

/-- The gate unit's record. -/
def Rect.gate (r : Rect) : GateUnit → Gate
  | .a => r.gateA
  | .b => r.gateB

/-- A gate unit's record replaced. -/
def Rect.setGate (r : Rect) (u : GateUnit) (g : Gate) : Rect :=
  match u with
  | .a => { r with gateA := g }
  | .b => { r with gateB := g }

/-- The ring port replaced. -/
def State.setRp (s : State) (x : RingPort) : State := { s with rp := x }
/-- The measurement unit replaced. -/
def State.setMsu (s : State) (x : Msu) : State := { s with msu := x }
/-- Rectifier control replaced. -/
def State.setRct (s : State) (x : Rect) : State := { s with rct := x }
/-- The feeder sequencer replaced. -/
def State.setFsq (s : State) (x : Fsq) : State := { s with fsq := x }
/-- The line test unit replaced. -/
def State.setLtu (s : State) (x : Ltu) : State := { s with ltu := x }
/-- The section coordinator replaced. -/
def State.setSco (s : State) (x : Sco) : State := { s with sco := x }
/-- The settings store replaced. -/
def State.setSst (s : State) (x : Sst) : State := { s with sst := x }
/-- The records unit replaced. -/
def State.setRecs (s : State) (x : Records) : State := { s with recs := x }
/-- Management replaced. -/
def State.setMgt (s : State) (x : Mgt) : State := { s with mgt := x }
/-- One protection record replaced. -/
def State.setProt (s : State) (f : Fin 8) (x : Protection) : State := { s with fpr := s.fpr.set f x }
/-- One point record replaced. -/
def State.setPoint (s : State) (p : Fin 32) (x : Point) : State :=
  { s with msu := { s.msu with points := s.msu.points.set p x } }
/-- One slot record replaced. -/
def State.setSlot (s : State) (k : Fin 9) (x : Slot) : State :=
  { s with fsq := { s.fsq with slots := s.fsq.slots.set k x } }
/-- One feeder record replaced. -/
def State.setFeeder (s : State) (f : Fin 8) (x : Feeder) : State :=
  { s with fsq := { s.fsq with feeders := s.fsq.feeders.set f x } }
/-- One link record replaced. -/
def State.setLink (s : State) (p : Port) (x : Link) : State :=
  match p with
  | .one => { s with sco := { s.sco with link1 := x } }
  | .two => { s with sco := { s.sco with link2 := x } }
/-- One section record replaced. -/
def State.setSection (s : State) (i : Fin 8) (x : SectionRec) : State :=
  { s with sco := { s.sco with sections := s.sco.sections.set i x } }

/-! ### Time -/

/-- Elapsed time brought forward to `t`, and station time with it (R178); no effect where `t` has passed. An expiry
command says that its timer has reached its limit, so elapsed time is then at least the limit
(notes/assumptions/2.md). -/
def State.reach (s : State) (t : Nat) : State :=
  if s.now < t then
    { s with now := t, mgt := { s.mgt with time := s.mgt.time + BitVec.ofNat 48 (t - s.now) } }
  else s

/-- Microseconds of a time in milliseconds. -/
def ms (n : Nat) : Nat := n * 1000

/-- Microseconds of a time in seconds. -/
def secs (n : Nat) : Nat := n * 1000000

/-- The time a timer has counted, in whole milliseconds, a part of one dropped; absent when it is stopped.
DESIGN CHOICE (notes/assumptions/36.md). -/
def countedMs (now : Nat) (t : Timer) : Option Int := t.map fun t0 => ((now - t0) / 1000 : Nat)

/-- A running timer has counted at least a limit. -/
def reached (now : Nat) (t : Timer) (limit : Nat) : Bool :=
  match t with
  | some t0 => decide (t0 + limit ≤ now)
  | none => false

/-! ### The event log and pulse alarms -/

/-- The log with a record as its newest entry; with 256 held, the oldest is removed first (R163). -/
def appendEvent (log : List EventRec) (e : EventRec) : List EventRec := log.drop (log.length - 255) ++ [e]

/-- An event logged: numbered one above the latest and stamped with station time (R163). -/
def logEvent (src : Source) (kind : EventKind) (d : Detail) (s : State) : State :=
  let e : EventRec :=
    { number := s.recs.latest + 1, time := s.mgt.time, timeSet := s.mgt.timeSet, source := src, kind := kind, detail := d }
  { s with recs := { s.recs with log := appendEvent s.recs.log e, latest := s.recs.latest + 1 } }

/-- The bit of an alarm in a bitmap of the alarms (chapter 11). -/
def alarmBit (a : Alarm) : BitVec 24 := 1#24 <<< alarmNumber a

/-- A pulse alarm raised: its condition is active for the instant, so its latch is set (R165). -/
def pulse (a : Alarm) (s : State) : State :=
  { s with recs := { s.recs with latched := s.recs.latched ||| alarmBit a } }

/-! ### Readings -/

/-- A point's last value, or absent (section 1.4). -/
def pointValue (s : State) (p : Fin 32) : Option Int := (s.point p).history.head?

/-- A point as it stands. -/
def reading (s : State) (p : Fin 32) : SnapPoint := { state := (s.point p).state, value := pointValue s p }

/-- A point as the block that takes a presentation reads it (R4): a point of the same head as the frame left it, and
another point as it stands. -/
def readAt (pr : Presentation) (s : State) (p : Fin 32) : SnapPoint :=
  match pr.frame.find? fun e => decide (e.1 = p) with
  | some e => e.2
  | none => reading s p

/-- A point's value while it is usable: WARMING with a value, or FRESH (chapters 4 and 5). -/
def usableValue (s : State) (p : Fin 32) : Option Int :=
  match (s.point p).state with
  | .warming | .fresh => pointValue s p
  | .stale | .unmapped => none

/-- V_line of a feeder while it is usable (section 4.2). -/
def lineValue (s : State) (f : Fin 8) : Option Int := usableValue s s.img.feeders[f].linePoint

/-- The line is live: V_line is usable and at or above V_live (R79, R90). -/
def lineLive (s : State) (f : Fin 8) : Bool :=
  match lineValue s f with
  | some v => decide ((s.img.test.vLive : Int) ≤ v)
  | none => false

/-- I_rect: the rectifier current point's last value, or 0 where it holds none (R49). -/
def rectCurrent (s : State) : Int := (pointValue s s.img.rect.currPoint).getD 0

/-- I_rect at an evaluation on a presentation (R49): of the same sample position where both points are on one head. -/
def presentedCurrent (pr : Presentation) (s : State) : Int := (readAt pr s s.img.rect.currPoint).value.getD 0

/-- The link of a feeder's section is UP. -/
def sectionLinkUp (s : State) (f : Fin 8) : Bool :=
  match sectionOf s.img f with
  | some i => (s.link s.img.sections[i].port).up
  | none => false

/-- The remote end state of a feeder's section; NONE without a section. -/
def remoteEnd (s : State) (f : Fin 8) : EndState :=
  match sectionOf s.img f with
  | some i => s.sco.sections[i].remote
  | none => .none

/-- Live permission (R130): a section, its link UP, and its remote end FED. -/
def livePermission (s : State) (f : Fin 8) : Bool := sectionLinkUp s f && decide (remoteEnd s f = .fed)

/-- The active group of a feeder (R23). With AUTO it is NORMAL exactly while the feeder's section has live
permission. -/
def activeGroup (s : State) (f : Fin 8) : Group :=
  match (s.prot f).selection with
  | .normal => .normal
  | .isolated => .isolated
  | .auto => if livePermission s f then .normal else .isolated

/-- The active group's settings. -/
def activeSettings (s : State) (f : Fin 8) : GroupEntry := groupEntry s.img f (activeGroup s f)

/-- The running states of the rectifier (chapter 3). -/
def running : RectState → Bool
  | .waitBreaker | .ramp | .regulating | .limiting | .phaseBack | .restoring => true
  | .stopped | .tripped => false

/-- Firing: a running state with the group breaker reported CLOSED (chapter 3). -/
def firing (r : Rect) : Bool := running r.state && decide (r.groupPos = some .closed)

/-- The rectifier regulates: REGULATING or LIMITING, the states in which a line test may run (R104). -/
def regulates : RectState → Bool
  | .regulating | .limiting => true
  | .stopped | .waitBreaker | .ramp | .phaseBack | .restoring | .tripped => false

/-- The state of the rectifier suppresses undervoltage: PHASE_BACK or RESTORING (R35). -/
def suppresses : RectState → Bool
  | .phaseBack | .restoring => true
  | .stopped | .waitBreaker | .ramp | .regulating | .limiting | .tripped => false

/-- A gate unit is in gate fault (R56): silent for 5 ms, or LOST while the rectifier is firing. -/
def gateFault (r : Rect) (u : GateUnit) : Bool :=
  (r.gate u).silent || (firing r && decide ((r.gate u).report = some false))

/-- The reported position of a slot. -/
def position (s : State) (k : Fin 9) : Option Position := (s.slot k).report.map (·.position)

/-- A slot reports its test contactor ON. -/
def contactorOn (s : State) (k : Fin 9) : Bool :=
  match (s.slot k).report with
  | some r => r.contactorOn
  | none => false

/-- A feeder is in service in the in-use image. -/
def inService (s : State) (f : Fin 8) : Bool := s.img.feeders[f].inService

/-- The open-pending set (R82): the feeders in TRIPPING. -/
def openPending (s : State) : List (Fin 8) :=
  (List.finRange 8).filter fun f => decide ((s.feeder f).state = .tripping)

/-- The configured shots minus the shots remaining: the shot number of an event (R81). -/
def shotNumber (s : State) (f : Fin 8) : Nat := s.img.feeders[f].shots - (s.feeder f).shots

/-- The local end state of a feeder's section (R121). -/
def localEnd (r : Feeder) : EndState :=
  match r.state, r.cls with
  | .closed, _ => .fed
  | .tripping, _ => .tripped
  | .deadTime, _ => .tripped
  | .testWait, some .reclose => .tripped
  | .closing, some .reclose => .tripped
  | .testWait, _ => .held
  | .closing, _ => .held
  | .testing, _ => .testing
  | .remoteWait, _ => .waiting
  | .unresolved, _ => .held
  | .disabled, _ => .held
  | .opened, _ => .held
  | .opening, _ => .held
  | .lockout, _ => .held
  | .breakerFail, _ => .held

/-- The settings state is TRIAL, or COMMITTING from TRIAL (R154). -/
def trialInForce : SettingsState → Bool
  | .base .trial => true
  | .committing .trial => true
  | .base .stored | .base .default | .committing .stored | .committing .default => false

/-- The staging image differs from the in-use image in this many entries; absent while staging is EMPTY. -/
def stagedDifferences (s : State) : Option Nat := s.sst.staging.map fun m => entriesDiffering m s.img

/-- A commit is in progress (R151). -/
def committing (s : State) : Bool :=
  match s.sst.settings with
  | .committing _ => true
  | .base _ => false

/-! ### Frames and requests in the owners' hands -/

/-- The presentations of a block not yet taken: the oldest for a target. -/
def nextFor (t : Target) (s : State) : Option Presentation := s.msu.presentations.find? fun p => decide (p.target = t)

/-- The oldest presentation for a target taken. -/
def takeFor (t : Target) (s : State) : State :=
  { s with msu := { s.msu with presentations := s.msu.presentations.eraseP fun p => decide (p.target = t) } }

/-- The frame of a request as RP hands it over (11.2). -/
def requestFrame (own src tag code : Byte) (args : List Byte) : RingFrame :=
  { dst := own, src := src, kind := kindRequest, payload := tag :: code :: args }

/-- A request frame leaves MGT's hands as MGT takes it. -/
def takeRequest (src tag code : Byte) (args : List Byte) (s : State) : State :=
  { s with mgt := { s.mgt with requests := s.mgt.requests.erase (requestFrame s.rp.own src tag code args) } }

end Sys2Proof.Machine
end

