-- ==== Sys2Proof/Machine/Flags.lean ====
section
/-! DEFINITION. The alarm conditions, each as its owning block's rule states it (section 9.2), the latches that follow
them (R165), and the outcome every meaning ends in. -/

namespace Sys2Proof.Machine

/-- BREAKER_UNRESOLVED (R74) holds for a slot: configured, and its position unknown, FAULT, its trip coil not healthy,
or no accepted status once 100 ms have passed since the cold reset. -/
def slotUnresolved (s : State) (k : Fin 9) : Bool :=
  configured s.img k &&
    ((s.slot k).unknown ||
      (match (s.slot k).report with
        | some r => decide (r.position = .fault) || !r.coilHealthy
        | none => false) ||
      (!(s.slot k).statusSeen && s.fsq.noStatusDue))

/-- PILOTn_DOWN (R126): the port configured, its link DOWN, and its grace timer stopped. -/
def pilotDown (s : State) (p : Port) : Bool :=
  portConfigured s.img p && !(s.link p).up && (s.link p).grace.isNone

/-- The condition of an alarm. A pulse alarm's condition is never active between events (R165). -/
def alarmActive (s : State) : Alarm → Bool
  | .storeInvalid => !s.sst.storedValid || !s.sst.flagsValid
  | .commitFailed => false
  | .trialActive => trialInForce s.sst.settings
  | .timeNotSet => !s.mgt.timeSet
  | .mpStale => (List.finRange 32).any fun p => s.img.inputs[p].inUse && decide ((s.point p).state = .stale)
  | .mpOverflow => s.msu.points.toList.any (·.overflow)
  | .feederLockout => (List.finRange 8).any fun f => inService s f && decide ((s.feeder f).state = .lockout)
  | .breakerFail =>
    s.fsq.feeders.toList.any (fun r => decide (r.state = .breakerFail)) || decide (s.fsq.groupState = .failed)
  | .closeFail => false
  | .breakerUnresolved => (List.finRange 9).any fun k => slotUnresolved s k
  | .thermal => (List.finRange 8).any fun f => inService s f && (s.prot f).thermalAlarm
  | .lineUndervoltage => s.fpr.toList.any (·.uvCondition)
  | .rectTripped => decide (s.rct.state = .tripped)
  | .gateFault => gateFault s.rct .a || gateFault s.rct .b
  | .testCircuitFault => decide (s.ltu.circuit = .outOfService)
  | .pilot1Down => pilotDown s .one
  | .pilot2Down => pilotDown s .two
  | .ringDegraded => s.rp.degraded
  | .ringOverrun => false
  | .captureFull => s.recs.segments.toList.all fun g => decide (g.state ≠ .recording) && decide (g.state ≠ .post)
  | .workPermitActive => s.fsq.feeders.toList.any (·.permit)
  | .commandLost => false
  | .liveSourceUnknown => false
  | .startTimeout => !s.msu.startSet.isEmpty

/-- The bitmap of the alarms whose condition is active. -/
def activeMask (s : State) : BitVec 24 :=
  allAlarms.foldl (fun m a => if alarmActive s a then m ||| alarmBit a else m) 0

/-- The summary: some alarm is both latched and enabled (R165). The alarm line is asserted exactly while it is true. -/
def summary (s : State) : Bool := decide (s.recs.latched &&& s.recs.enabled ≠ 0)

/-- The alarm line (11.7): a view of the latches and enables. -/
def alarmLine (s : State) : Bool := summary s

/-- The latches after an event: each condition that rose from inactive to active at it sets its latch (R165). -/
def latchRises (before after : State) : State :=
  { after with recs := { after.recs with latched := after.recs.latched ||| (activeMask after &&& ~~~activeMask before) } }

/-- The outcome of a command: the next state, with the latches that its changes set. -/
def finish (before after : State) : Host.Outcome State Fault Refusal := .next (latchRises before after)

end Sys2Proof.Machine
end

