-- ==== Sys2Proof/Machine/RingPort.lean ====
section
/-! DEFINITION. RP's transmit queues and output arbiter (R139 to R144), as the other blocks use them. -/

namespace Sys2Proof.Machine

/-- The arbiter's choice at the end of a transmission or, while the output is idle, at the placing of a frame
(R144): the oldest frame of TRIP, of FORWARD or CONTROL by the turn, then of REPORT. -/
def choose (r : RingPort) : RingPort :=
  match r.trip, r.forward, r.control, r.report with
  | (_, f) :: rest, _, _, _ => { r with trip := rest, sending := some f }
  | [], f :: fs, c :: cs, _ =>
    match r.turn with
    | .forward => { r with forward := fs, sending := some f, turn := .control }
    | .control => { r with control := cs, sending := some c, turn := .forward }
  | [], f :: fs, [], _ => { r with forward := fs, sending := some f, turn := .control }
  | [], [], c :: cs, _ => { r with control := cs, sending := some c, turn := .forward }
  | [], [], [], p :: ps => { r with report := ps, sending := some p }
  | [], [], [], [] => { r with sending := none }

/-- An idle output starts a transmission at once (R144). -/
def startIfIdle (r : RingPort) : RingPort :=
  match r.sending with
  | some _ => r
  | none => choose r

/-- A frame put in the place of the first that meets a test, or behind the others (R141). -/
def replaceOrAppend {α : Type} (same : α → Bool) (x : α) : List α → List α
  | [] => [x]
  | y :: ys => if same y then x :: ys else y :: replaceOrAppend same x ys

/-- A TRIP placed in the TRIP queue: it replaces a copy for the same slot, stands behind the others while fewer than 8
are queued, and is held over otherwise (R142). -/
def placeTrip (k : Fin 9) (f : RingFrame) (r : RingPort) : RingPort :=
  if r.trip.any (fun e => decide (e.1 = k)) then
    startIfIdle { r with trip := replaceOrAppend (fun e => decide (e.1 = k)) (k, f) r.trip }
  else if r.trip.length < 8 then startIfIdle { r with trip := r.trip ++ [(k, f)] }
  else { r with heldOver := satAdd top32 r.heldOver 1 }

/-- The CONTROL queue is full for a breaker command: it holds 14 of them, or 16 frames in all (R141). -/
def controlFull (r : RingPort) : Bool :=
  decide (14 ≤ (r.control.filter fun f => decide (f.kind = kindBreakerCommand)).length) || decide (16 ≤ r.control.length)

/-- A breaker command placed in the CONTROL queue, which is not full for it. -/
def placeCommand (f : RingFrame) (r : RingPort) : RingPort := startIfIdle { r with control := r.control ++ [f] }

/-- The first element that meets a test replaced; nothing where none does. -/
def replaceFirst {α : Type} (same : α → Bool) (x : α) : List α → List α
  | [] => []
  | y :: ys => if same y then x :: ys else y :: replaceFirst same x ys

/-- A queued setpoint for the gate unit at an address. -/
def setpointFor (a : Byte) (g : RingFrame) : Bool := decide (g.kind = kindGateSetpoint) && decide (g.dst = a)

/-- A queued setpoint for an address that is no gate unit's: the BLOCK of a unit that a switch has left (R69). -/
def setpointLeft (units : List Byte) (g : RingFrame) : Bool :=
  decide (g.kind = kindGateSetpoint) && !units.contains g.dst

/-- The CONTROL queue with a setpoint placed (R141): it replaces a queued setpoint for the same gate unit in its place, and
stands behind the other frames otherwise. A gate unit is its address; where BLOCKs to addresses that a switch has left
fill the queue, it takes the place of one. DESIGN CHOICE (notes/assumptions/35.md). -/
def withSetpoint (units : List Byte) (f : RingFrame) (q : List RingFrame) : List RingFrame :=
  if q.any (setpointFor f.dst) then replaceFirst (setpointFor f.dst) f q
  else if q.length < 16 then q ++ [f]
  else replaceFirst (setpointLeft units) f q

/-- A gate setpoint placed in the CONTROL queue, with the addresses of the two gate units (R141). -/
def placeSetpoint (units : List Byte) (f : RingFrame) (r : RingPort) : RingPort :=
  startIfIdle { r with control := withSetpoint units f r.control }

/-- A frame placed in the REPORT queue, which holds fewer than 32 (R143). -/
def placeReport (f : RingFrame) (r : RingPort) : RingPort := startIfIdle { r with report := r.report ++ [f] }

/-- The REPORT queue is full (R143). -/
def reportFull (r : RingPort) : Bool := decide (32 ≤ r.report.length)

/-- A management response placed in the REPORT queue, or dropped and counted where the queue is full (R143). -/
def placeResponse (f : RingFrame) (r : RingPort) : RingPort :=
  if reportFull r then { r with respsDropped := satAdd top32 r.respsDropped 1 } else placeReport f r

/-- A frame to be forwarded: placed in the FORWARD queue, or dropped where it holds 4 frames, with the pulse alarm
RING_OVERRUN, the overrun counts, and an event at the first drop of a window (R136, R140). -/
def forwardFrame (f : RingFrame) (s : State) : State :=
  if s.rp.forward.length < 4 then
    s.setRp (startIfIdle { s.rp with forward := s.rp.forward ++ [f], forwarded := satAdd top32 s.rp.forwarded 1 })
  else
    let first := decide (s.rp.windowOver = 0)
    let s1 := s.setRp { s.rp with
      windowOver := satAdd top16 s.rp.windowOver 1
      overruns := satAdd top32 s.rp.overruns 1 }
    let s2 := pulse .ringOverrun s1
    if first then logEvent .ring .ringOverrun { number := some s2.rp.overruns } s2 else s2

end Sys2Proof.Machine
end

