-- ==== Sys2Proof/Machine/Capture.lean ====
section
/-! DEFINITION. REC's capture segments: triggers, rows, freezing and release (R169 to R174). -/

namespace Sys2Proof.Machine

/-- The segment in RECORDING or POST. -/
def activeSegment (r : Records) : Option (Fin 4) :=
  (List.finRange 4).find? fun i =>
    decide (r.segments[i].state = .recording) || decide (r.segments[i].state = .post)

/-- The lowest-numbered FREE segment, if there is one, enters RECORDING with no rows (R171). -/
def startNextSegment (r : Records) : Records :=
  match (List.finRange 4).find? fun i => decide (r.segments[i].state = .free) with
  | some i => { r with segments := r.segments.set i recordingSegment }
  | none => r

/-- The header as freezing completes it (R171): the record number, the rows held, the trigger row renumbered from the
oldest held row, and the post rows recorded. -/
def frozenHeader (g : Segment) (record : Nat) (h : Header) : Header :=
  { h with
    record := record
    validRows := g.rows.length
    triggerRow := if h.hasTrigger then some (g.rows.length - 1 - g.postCount) else none
    postRows := g.postCount }

/-- A segment in POST freezes; CAPTURE_FROZEN is logged and the next segment is chosen (R171). The record number counts on
without a bound, and its 4 bytes wrap. DESIGN CHOICE (notes/assumptions/44.md). -/
def freezeSegment (i : Fin 4) (s : State) : State :=
  let g := s.recs.segments[i]
  match g.header with
  | none => s
  | some h =>
    let n := s.recs.frozen + 1
    let s1 := s.setRecs { s.recs with
      segments := s.recs.segments.set i { g with state := .frozen, header := some (frozenHeader g n h) }
      frozen := n }
    let s2 := logEvent .part .captureFrozen
      { causes := [.cause h.cause], tag := some i.val, number := some n } s1
    s2.setRecs (startNextSegment s2.recs)

/-- A segment in POST freezes once its post count has reached the post rows in use (R171). -/
def freezeIfDone (i : Fin 4) (s : State) : State :=
  if s.recs.segments[i].state = .post ∧ s.img.capture.postRows ≤ s.recs.segments[i].postCount then freezeSegment i s
  else s

/-- The cause of a capture trigger is in the trigger mask; MANUAL always is (R170). -/
def triggerTaken (m : Image) : Cause → Bool
  | .protectionTrip => m.capture.maskTrip
  | .phaseBack => m.capture.maskPhaseBack
  | .transferTrip => m.capture.maskTransfer
  | .rectTrip => m.capture.maskRect
  | .manual => true
  | _ => false

/-- The outcome of a capture trigger (R170). -/
inductive TriggerOutcome where
  | taken (segment : Fin 4)
  | ignored
  | missed
  deriving DecidableEq, Repr

/-- The outcome a capture trigger has in a capture state (R170). -/
def triggerOutcome (r : Records) : TriggerOutcome :=
  match activeSegment r with
  | none => .missed
  | some i => if r.segments[i].state = .recording then .taken i else .ignored

/-- The header a triggered segment takes at once: the time, the cause, the trigger row and the channels (R170). -/
def triggerHeader (s : State) (i : Fin 4) (cause : Cause) : Header :=
  { record := 0, cause := cause, time := s.mgt.time, timeSet := s.mgt.timeSet,
    hasTrigger := !s.recs.segments[i].rows.isEmpty, validRows := 0, triggerRow := none, postRows := 0,
    channels := captureChannels s.img }

/-- A capture trigger (R170): the segment in RECORDING enters POST, a segment in POST ignores it, and with recording
stopped CAPTURE_MISSED is logged. -/
def captureTrigger (cause : Cause) (s : State) : State :=
  if triggerTaken s.img cause then
    match triggerOutcome s.recs with
    | .ignored => s
    | .missed => logEvent .part .captureMissed { causes := [.cause cause] } s
    | .taken i =>
      let s1 := s.setRecs { s.recs with
        segments := s.recs.segments.set i { s.recs.segments[i] with
          state := .post, header := some (triggerHeader s i cause), postCount := 0 } }
      freezeIfDone i s1
  else s

/-- One channel of a row: the pacing point gives its presented value, a point of its head the value of the same sample
position, and another point its last value as it stands (R169, R4). -/
def rowChannel (s : State) (pr : Presentation) (i : Nat) (p : Fin 32) : Channel :=
  if i = 0 then { mark := some pr.state, value := pr.value }
  else
    match (readAt pr s p).value with
    | some v => { mark := some (readAt pr s p).state, value := v }
    | none => { mark := none, value := 0 }

/-- The row of a presentation of the pacing point (R169). -/
def captureRowOf (s : State) (pr : Presentation) : Row :=
  { advance := pr.advance, resync := pr.resync,
    channels := (captureChannels s.img).mapIdx fun i p => rowChannel s pr i p }

/-- The rows with one more; a full segment of 1024 loses its oldest (R169). -/
def appendRow (rows : List Row) (r : Row) : List Row := rows.drop (rows.length - 1023) ++ [r]

/-- A row written into the segment in RECORDING or POST; in POST it counts, and may freeze the segment (R169, R171). -/
def writeRow (r : Row) (s : State) : State :=
  match activeSegment s.recs with
  | none => s
  | some i =>
    let g := s.recs.segments[i]
    let g1 := { g with
      rows := appendRow g.rows r
      postCount := if g.state = .post then g.postCount + 1 else g.postCount }
    freezeIfDone i (s.setRecs { s.recs with segments := s.recs.segments.set i g1 })

end Sys2Proof.Machine
end

