-- ==== Sys2Proof/Machine/Protection.lean ====
section
/-! DEFINITION. FPR's functions (chapter 2): the overcurrent checks, rise discrimination, the thermal image, the
undervoltage and loss functions, and the trip demand. -/

namespace Sys2Proof.Machine

/-! ### The overcurrent checks -/

/-- The IOC threshold: I_max, or the lower of I_max and I_max_wp while the work permit is set (R25). -/
def iocThreshold (fe : FeederEntry) (ge : GroupEntry) (permit : Bool) : Nat :=
  if permit then min ge.iMax fe.iMaxWp else ge.iMax

/-- The causes of the overcurrent checks (R25). -/
def overcurrent (fe : FeederEntry) (ge : GroupEntry) (permit : Bool) (i : Int) : List Cause :=
  (if (iocThreshold fe ge permit : Int) ≤ i then [.ioc] else []) ++
  (if ge.iRev ≠ 0 ∧ i ≤ -(ge.iRev : Int) then [.iocRev] else [])

/-! ### Rise discrimination -/

/-- A rate meets a setting: 5 × r ≥ 2 × S (R26). -/
def meets (r : Int) (setting : Nat) : Bool := decide (2 * (setting : Int) ≤ 5 * r)

/-- The rise record after the counts of an evaluation, with I_start, n, c and e (R27, R28); absent while QUIET. -/
def riseCounts (ge : GroupEntry) (i i4 : Int) (g : Nat) : Rise → Option (Int × Nat × Nat × Nat)
  | .quiet =>
    if meets (i - i4) ge.sStart then
      some (i4, 4, if meets (i - i4) ge.sTrip then satAdd top16 0 g else 0,
        if meets (i - i4) ge.sEnd then 0 else satAdd top16 0 g)
    else none
  | .rising st n c e =>
    some (st, satAdd top16 n g, if meets (i - i4) ge.sTrip then satAdd top16 c g else 0,
      if meets (i - i4) ge.sEnd then 0 else satAdd top16 e g)

/-- The causes that the counts find: DIDT and DELTA_I (R29). -/
def riseCauses (ge : GroupEntry) (i : Int) (x : Int × Nat × Nat × Nat) : List Cause :=
  (if ge.nRate ≤ x.2.2.1 then [.didt] else []) ++
  (if (ge.dISet : Int) ≤ i - x.1 ∧ ge.nDly ≤ x.2.1 then [.deltaI] else [])

/-- Rise discrimination at an evaluation on a FRESH value: the record after it and the causes found (R27 to R29). -/
def riseStep (ge : GroupEntry) (i i4 : Int) (g : Nat) (rise : Rise) : Rise × List Cause :=
  match riseCounts ge i i4 g rise with
  | none => (.quiet, [])
  | some x =>
    if riseCauses ge i x ≠ [] then (.quiet, riseCauses ge i x)
    else if ge.nEnd ≤ x.2.2.2 ∨ ge.nWindow < x.2.1 then (.quiet, [])
    else (.rising x.1 x.2.1 x.2.2.1 x.2.2.2, [])

/-! ### The thermal image -/

/-- θ after a completed block of mean square M: θ + trunc((M − θ) / (100 × τ)) (R32). -/
def thermalUpdate (tau : Nat) (theta m : Int) : Int := theta + truncDiv (m - theta) (100 * tau)

/-- One position added to the thermal block; the hundredth completes it (R31). -/
def thermalPosition (tau : Nat) (p : Protection) (i : Int) : Protection :=
  if 99 ≤ p.blockCount then
    { p with theta := thermalUpdate tau p.theta (floorDiv (p.blockSum + i * i) 100), blockSum := 0, blockCount := 0 }
  else { p with blockSum := p.blockSum + i * i, blockCount := p.blockCount + 1 }

/-- The positions a presentation stands for, oldest first: slots g − 1 down to 1 of the history, then the presented
value (R31). -/
def positionsOf (hist : List Int) (g : Nat) (value : Int) : List Int := ((hist.take g).drop 1).reverse ++ [value]

/-- I_th², exact. -/
def thermalLevel (fe : FeederEntry) : Int := (fe.iTh : Int) * fe.iTh

/-- The thermal alarm level is reached: 100 × θ ≥ 81 × I_th² (R33). -/
def thermalAlarmLevel (fe : FeederEntry) (theta : Int) : Bool := decide (81 * thermalLevel fe ≤ 100 * theta)

/-- The restart inhibit level is reached: 100 × θ ≥ 64 × I_th² (R34). -/
def inhibitLevel (fe : FeederEntry) (theta : Int) : Bool := decide (64 * thermalLevel fe ≤ 100 * theta)

/-! ### The evaluation -/

/-- Step 3 of R24: a WARMING value makes the rise record QUIET and empties the thermal block. -/
def warmingStep (p : Protection) : Protection := { p with rise := .quiet, blockSum := 0, blockCount := 0 }

/-- Step 4 of R24: the overcurrent checks, rise discrimination and thermal accumulation on a FRESH value, with the
history as the presented update left it (R26, R31). -/
def freshStep (fe : FeederEntry) (ge : GroupEntry) (permit : Bool) (pr : Presentation) (p : Protection) :
    Protection × List Cause :=
  let rs := riseStep ge pr.value (pr.history.getD 4 pr.value) pr.advance p.rise
  ((positionsOf pr.history pr.advance pr.value).foldl (thermalPosition fe.tau) { p with rise := rs.1 },
    overcurrent fe ge permit pr.value ++ rs.2)

/-- The THERMAL and OVERFLOW checks of step 5 (R33, R40). -/
def lateCauses (fe : FeederEntry) (pr : Presentation) (theta : Int) : List Cause :=
  (if thermalLevel fe ≤ theta then [.thermal] else []) ++
  (if pr.saturating = true ∧ fe.tripOnOverflow = true then [.overflow] else [])

/-- Steps 3 to 6 of an evaluation (R24): the protection record after it, and the cause list in the order of R41. -/
def evaluate (fe : FeederEntry) (ge : GroupEntry) (permit : Bool) (pr : Presentation) (p : Protection) :
    Protection × List Cause :=
  let x := if pr.state = .fresh then freshStep fe ge permit pr p else (warmingStep p, [])
  ({ x.1 with thermalAlarm := thermalAlarmLevel fe x.1.theta, inhibit := inhibitLevel fe x.1.theta },
    x.2 ++ lateCauses fe pr x.1.theta)

/-- A feeder state in which a demand is raised or acted on: CLOSED or CLOSING (R42, R81). -/
def demandable : FeederState → Bool
  | .closed | .closing => true
  | .unresolved | .disabled | .opened | .testWait | .testing | .opening | .tripping | .deadTime | .remoteWait
  | .lockout | .breakerFail => false

/-- A trip demand raised where the cause list, the feeder's state and the demand in hand allow it (R42). -/
def raiseDemand (f : Fin 8) (causes : List Cause) (current : Option Int) (g : Group) (s : State) : State :=
  if causes ≠ [] ∧ demandable (s.feeder f).state = true ∧ (s.prot f).demand = none then
    s.setProt f { s.prot f with
      demand := some { causes := causes, current := current, group := g, time := s.mgt.time, timeSet := s.mgt.timeSet } }
  else s

/-- The thermal alarm event of a feeder whose alarm went from clear to set (R33). -/
def noteThermal (f : Fin 8) (was : Bool) (current : Option Int) (s : State) : State :=
  if was = false ∧ (s.prot f).thermalAlarm = true then logEvent (.feeder f) .thermalAlarm { current := current } s else s

/-- The group in use recorded, with GROUP_CHANGE where it differs from the previous evaluation's (R23). -/
def recordGroup (f : Fin 8) (s : State) : State :=
  let g := activeGroup s f
  let s1 := s.setProt f { s.prot f with groupInUse := some g }
  match (s.prot f).groupInUse with
  | some old => if old = g then s1 else logEvent (.feeder f) .groupChange { group := some g } s1
  | none => s1

/-- An evaluation of a feeder in service on one presentation, up to its trip demand (R24). -/
def evaluateFeeder (f : Fin 8) (pr : Presentation) (s : State) : State :=
  let s1 := recordGroup f s
  let p := { s1.prot f with lossTimer := none }
  let e := evaluate s.img.feeders[f] (activeSettings s f) (s.feeder f).permit pr p
  let s2 := noteThermal f p.thermalAlarm (some pr.value) (s1.setProt f e.1)
  raiseDemand f e.2 (some pr.value) (activeGroup s f) s2

/-! ### Line undervoltage -/

/-- The undervoltage function of a feeder is armed (R35). -/
def uvArmed (s : State) (f : Fin 8) : Bool :=
  inService s f && decide ((s.feeder f).state = .closed) && decide ((activeSettings s f).uMin ≠ 0) &&
  !suppresses s.rct.state && (lineValue s f).isSome

/-- Disarming stops the timer and clears the condition (R35). -/
def disarmUv (f : Fin 8) (s : State) : State :=
  s.setProt f { s.prot f with uvTimer := none, uvCondition := false }

/-- A feeder whose undervoltage function is not armed has its timer stopped and its condition clear (R35). -/
def uvCheck (f : Fin 8) (s : State) : State := if uvArmed s f then s else disarmUv f s

/-- The same for every feeder, at an event of the rectifier or of the settings. -/
def uvCheckAll (s : State) : State := forEach 8 uvCheck s

/-- The undervoltage time reached: the condition is set, the timer stops, and LINE_UNDERVOLTAGE is logged (R36). -/
def uvExpire (f : Fin 8) (s : State) : State :=
  logEvent (.feeder f) .lineUndervoltage
    { voltage := pointValue s s.img.feeders[f].linePoint, group := some (activeGroup s f) }
    (s.setProt f { s.prot f with uvTimer := none, uvCondition := true })

/-- A change of active group during the count compares the time counted with the new t_uv (R36). -/
def uvRecheck (f : Fin 8) (s : State) : State :=
  if reached s.now (s.prot f).uvTimer (ms (activeSettings s f).tUv) then uvExpire f s else s

/-- The active group of a feeder has changed: disarm where the new group has no undervoltage threshold, and compare the
time counted with the new limit (R35, R36). -/
def groupChanged (f : Fin 8) (s : State) : State := uvRecheck f (uvCheck f s)

/-- Each feeder whose active group differs from what it was takes the change (R23, R35, R36). -/
def groupsChanged (before : State) (s : State) : State :=
  forEach 8 (fun f x => if activeGroup before f = activeGroup x f then x else groupChanged f x) s

/-- A presented line voltage compared with U_min while the function is armed (R36). -/
def uvPresent (f : Fin 8) (v : Int) (s : State) : State :=
  if uvArmed s f then
    if v < ((activeSettings s f).uMin : Int) then
      match (s.prot f).uvTimer with
      | none => s.setProt f { s.prot f with uvTimer := some s.now }
      | some _ => s
    else disarmUv f s
  else s

/-! ### Events of the feeder and of its current point -/

/-- FPR's part in a feeder's state change (R35, R38): leaving CLOSED stops the loss timer and disarms the undervoltage
function; entering CLOSED with a STALE current point starts the loss timer. -/
def fprStateChange (f : Fin 8) (old new : FeederState) (s : State) : State :=
  if old = .closed ∧ new ≠ .closed then
    s.setProt f { s.prot f with lossTimer := none, uvTimer := none, uvCondition := false }
  else if old ≠ .closed ∧ new = .closed ∧ (s.point s.img.feeders[f].currentPoint).state = .stale then
    s.setProt f { s.prot f with lossTimer := some s.now }
  else s

/-- The expiry of the freshness timer of a feeder's current point (R38). -/
def currentPointStale (f : Fin 8) (s : State) : State :=
  s.setProt f { warmingStep (s.prot f) with
    lossTimer := if (s.feeder f).state = .closed then some s.now else (s.prot f).lossTimer }

/-- FPR's part in the expiry of a point's freshness timer, for each feeder in service that uses it (R21, R35, R38). -/
def fprPointStale (p : Fin 32) (s : State) : State :=
  forEach 8 (fun f x =>
    if inService x f then
      let x1 := if x.img.feeders[f].currentPoint = p then currentPointStale f x else x
      if x.img.feeders[f].linePoint = p then uvCheck f x1 else x1
    else x) s

end Sys2Proof.Machine
end

