-- ==== Sys2Proof/Machine/Slots.lean ====
section
/-! DEFINITION. FSQ's commands to a slot: issuing, loss, repetition, echo and completion (R75, R76, R77). -/

namespace Sys2Proof.Machine

/-- The BREAKER_COMMAND frame of a command to a slot (11.2). -/
def commandFrame (s : State) (k : Fin 9) (c : BrkCmd) (tag : Byte) : RingFrame :=
  { dst := s.img.breakers[k].address, src := s.rp.own, kind := kindBreakerCommand,
    payload := [BitVec.ofNat 8 (cmdCode c), tag] }

/-- A command as outstanding from its issue: the echo timer of a non-trip command starts from 0 (R75). -/
def newCommand (s : State) (k : Fin 9) (c : BrkCmd) : Command :=
  { cmd := c, tag := (s.slot k).nextTag, echoed := false, sentAt := s.now,
    echo := if c = .trip then none else some s.now }

/-- The slot as a new command leaves it: the tag advanced, the outstanding command of the same group abandoned for
the new one, and the open watch stopped by a breaker command (R75, R80). -/
def slotWithCommand (x : Slot) (c : Command) : Slot :=
  match cmdGroup c.cmd with
  | .breaker => { x with nextTag := x.nextTag + 1, breakerCmd := some c, lastGroup := .breaker, openWatch := none }
  | .contactor => { x with nextTag := x.nextTag + 1, contactorCmd := some c, lastGroup := .contactor }

/-- The outstanding command of a group. -/
def outstanding (x : Slot) : CmdGroup → Option Command
  | .breaker => x.breakerCmd
  | .contactor => x.contactorCmd

/-- The outstanding command of a group replaced. -/
def setOutstanding (x : Slot) (g : CmdGroup) (c : Option Command) : Slot :=
  match g with
  | .breaker => { x with breakerCmd := c }
  | .contactor => { x with contactorCmd := c }

/-- A non-trip command is lost: it stops being outstanding, the pulse alarm COMMAND_LOST is raised, and the event
names the slot, the command and its tag (R76). -/
def loseCommand (k : Fin 9) (c : Command) (s : State) : State :=
  let s1 := s.setSlot k (setOutstanding (s.slot k) (cmdGroup c.cmd) none)
  logEvent (.slot k) .commandLost { tag := some c.tag.toNat, number := some (cmdCode c.cmd) } (pulse .commandLost s1)

/-- A command issued to a slot (R75). TRIP goes to the TRIP queue; another command goes to the CONTROL queue, and is
lost at once where that is full (R76, R141). The second component says that the command was not lost. -/
def issueCommand (k : Fin 9) (c : BrkCmd) (s : State) : State × Bool :=
  let cmd := newCommand s k c
  let s1 := s.setSlot k (slotWithCommand (s.slot k) cmd)
  if c = .trip then (s1.setRp (placeTrip k (commandFrame s k c cmd.tag) s1.rp), true)
  else if controlFull s1.rp then
    (loseCommand k cmd (s1.setRp { s1.rp with cmdsLost := satAdd top32 s1.rp.cmdsLost 1 }), false)
  else (s1.setRp (placeCommand (commandFrame s k c cmd.tag) s1.rp), true)

/-- A command issued whose loss has no further effect. -/
def issueOnly (k : Fin 9) (c : BrkCmd) (s : State) : State := (issueCommand k c s).1

/-- An outstanding TRIP placed again with the same tag (R77). -/
def repeatTrip (k : Fin 9) (c : Command) (s : State) : State :=
  let s1 := s.setSlot k { s.slot k with breakerCmd := some { c with sentAt := s.now } }
  s1.setRp (placeTrip k (commandFrame s1 k .trip c.tag) s1.rp)

/-- A command echoed: its echo timer stops. -/
def echoCommand (c : Command) : Command := { c with echoed := true, echo := none }

/-- An accepted status echoes the outstanding command whose tag it carries, and the slot's outstanding command of the
other group where that was issued earlier (R75). -/
def echoSlot (tag : Byte) (x : Slot) : Slot :=
  let b := match x.breakerCmd with
    | some c => decide (c.tag = tag)
    | none => false
  let t := match x.contactorCmd with
    | some c => decide (c.tag = tag)
    | none => false
  let echoB := b || (t && decide (x.lastGroup = .contactor))
  let echoT := t || (b && decide (x.lastGroup = .breaker))
  { x with
    breakerCmd := if echoB then x.breakerCmd.map echoCommand else x.breakerCmd
    contactorCmd := if echoT then x.contactorCmd.map echoCommand else x.contactorCmd }

/-- A command is finished by a status (R75): a TRIP when the slot reports OPEN; another once it is echoed and the slot
reports the position it asked for. -/
def finishedBy (r : StatusReport) (c : Command) : Bool :=
  match c.cmd with
  | .trip => decide (r.position = .opened)
  | .open => c.echoed && decide (r.position = .opened)
  | .close => c.echoed && decide (r.position = .closed)
  | .testOn => c.echoed && r.contactorOn
  | .testOff => c.echoed && !r.contactorOn

/-- The slot's finished commands stop being outstanding (R75). -/
def finishSlot (r : StatusReport) (x : Slot) : Slot :=
  { x with
    breakerCmd := x.breakerCmd.bind fun c => if finishedBy r c then none else some c
    contactorCmd := x.contactorCmd.bind fun c => if finishedBy r c then none else some c }

/-- The slot record as an accepted status leaves it (R73, R74, R75, R80): the reported values, the freshness timer
restarted, position_unknown cleared, commands echoed and finished, and the open watch stopped by an OPEN report. -/
def acceptStatus (now : Nat) (r : StatusReport) (x : Slot) : Slot :=
  let y := finishSlot r (echoSlot r.echoed
    { x with report := some r, statusSeen := true, freshness := some now, unknown := false })
  if r.position = .opened then { y with openWatch := none } else y

/-- A TEST_OFF is outstanding to a slot. -/
def testOffOutstanding (x : Slot) : Bool :=
  match x.contactorCmd with
  | some c => decide (c.cmd = .testOff)
  | none => false

end Sys2Proof.Machine
end

