-- ==== Sys2Proof/Config.lean ====
section
/-! DEFINITION. What an implementation fixes and the spec does not state: constants with no body, so that nothing can
be proved of their values. -/

namespace Sys2Proof

/-- The revision code of the device, which IDENTIFY returns (R179); the spec gives no value (notes/assumptions/3.md). -/
opaque Config.revision : Byte

/-- What the store holds as the stored image once an image write has begun and until a read-back verifies one (R153), and
where a cold reset finds the check of a valid one bad (R159): an image the spec does not state, one for each value of the
State's counter. It is free within the type of an image, whose flags, kinds, point numbers, slots, ports and rights are
legal ones. DESIGN CHOICE (notes/assumptions/4.md). -/
opaque Config.unverifiedImage : Nat → Machine.Image

end Sys2Proof
end

