-- ==== Sys2Proof/Machine/Store.lean ====
section
/-! DEFINITION. SST's store arbiter (R157), the checks of an image (R152), as the other blocks and requests use them. -/

namespace Sys2Proof.Machine

/-- A flags write begins: the record is marked INVALID and takes the flags of all eight feeders as they stand
(R157). -/
def beginFlagsWrite (s : State) : State :=
  s.setSst { s.sst with
    arbiter := .flags
    writeStart := some s.now
    flagsPending := false
    flagsValid := false
    flagsLockout := mapBank (·.lockoutFlag) s.fsq.feeders
    flagsPermit := mapBank (·.permit) s.fsq.feeders }

/-- FSQ asks for a flags write: it begins at an idle arbiter and is set pending otherwise (R157). -/
def requestFlagsWrite (s : State) : State :=
  match s.sst.arbiter with
  | .idle => beginFlagsWrite s
  | .image | .flags => s.setSst { s.sst with flagsPending := true }

/-- An image write begins: the stored image is marked INVALID; what the store holds until a read-back verifies it is
not stated (R153). -/
def beginImageWrite (s : State) : State :=
  { s with
    sst := { s.sst with
      arbiter := .image
      writeStart := some s.now
      imageWaiting := false
      storedValid := false
      stored := Config.unverifiedImage s.freeCount }
    freeCount := s.freeCount + 1 }

/-- A write has ended: a waiting image write begins first, failing that a pending flags write, failing both the arbiter
becomes IDLE (R157). -/
def nextWrite (s : State) : State :=
  if s.sst.imageWaiting then beginImageWrite s
  else if s.sst.flagsPending then beginFlagsWrite s
  else s.setSst { s.sst with arbiter := .idle, writeStart := none }

/-! ### Validation (R152) -/

/-- A failed check: the reason, the table and the entry number. Which entry a failure of two entries, or of none, names is
not stated. DESIGN CHOICE (notes/assumptions/38.md). -/
structure Failure where
  reason : Reason
  table  : Table
  entry  : Nat
  deriving DecidableEq, Repr

/-- The first of a list of numbers that fails a test, as a failure. -/
def firstFailure {n : Nat} (reason : Reason) (table : Table) (bad : Fin n → Bool) : Option Failure :=
  ((List.finRange n).find? bad).map fun i => { reason := reason, table := table, entry := i.val }

/-- A point is in use and of a kind. -/
def pointIs (m : Image) (p : Fin 32) (k : PointKind) : Bool := m.inputs[p].inUse && decide (m.inputs[p].kind = k)

/-- POINT: an in-service feeder's points, and the kinds of the rectifier's points where they are in use. -/
def checkPoint (m : Image) : Option Failure :=
  (firstFailure .point .feeder fun f : Fin 8 =>
    m.feeders[f].inService &&
      (!pointIs m m.feeders[f].currentPoint .feederCurrent || !pointIs m m.feeders[f].linePoint .lineVoltage)).orElse
  fun _ =>
    if (m.inputs[m.rect.busPoint].inUse && decide (m.inputs[m.rect.busPoint].kind ≠ .busVoltage)) ||
       (m.inputs[m.rect.currPoint].inUse && decide (m.inputs[m.rect.currPoint].kind ≠ .rectCurrent))
    then some { reason := .point, table := .rectifier, entry := 0 } else none

/-- SLOT: an in-service feeder's slot not fitted, or named by two in-service feeders. -/
def checkSlot (m : Image) : Option Failure :=
  firstFailure .slot .feeder fun f : Fin 8 =>
    m.feeders[f].inService &&
      (!fitted m (slotOf m f) ||
        (List.finRange 8).any fun g =>
          decide (g.val < f.val) && m.feeders[g].inService && decide (m.feeders[g].slot = m.feeders[f].slot))

/-- ADDRESS: two fitted slots with one address, or a fitted slot or a gate unit with the own address. -/
def checkAddress (own : Byte) (m : Image) : Option Failure :=
  (firstFailure .address .breaker fun k : Fin 9 =>
    fitted m k &&
      (decide (m.breakers[k].address = own) ||
        (List.finRange 9).any fun j =>
          decide (j.val < k.val) && fitted m j && decide (m.breakers[j].address = m.breakers[k].address))).orElse
  fun _ =>
    if m.rect.gateA = own ∨ m.rect.gateB = own then some { reason := .address, table := .rectifier, entry := 0 } else none

/-- FIRING: an angle above the one before it; the entry is the later of the two. -/
def checkFiring (m : Image) : Option Failure :=
  firstFailure .firing .firing fun j : Fin 33 =>
    decide (0 < j.val) && decide (m.firing[j] > m.firing[j.val - 1]!)

/-- SECTION: a feeder in two in-use entries, an id twice on one port, or more than 4 entries on one port. -/
def checkSections (m : Image) : Option Failure :=
  firstFailure .sections .sections fun i : Fin 8 =>
    m.sections[i].inUse &&
      (((List.finRange 8).any fun j =>
          decide (j.val < i.val) && m.sections[j].inUse &&
            (decide (m.sections[j].feeder = m.sections[i].feeder) ||
              (decide (m.sections[j].port = m.sections[i].port) &&
                decide (m.sections[j].sectionId = m.sections[i].sectionId)))) ||
        decide (4 ≤ ((List.finRange 8).filter fun j =>
          decide (j.val < i.val) && m.sections[j].inUse && decide (m.sections[j].port = m.sections[i].port)).length))

/-- MANAGER: the wildcard with OPERATE or CONFIGURE, an address with no right, an address twice, or no CONFIGURE. -/
def checkManagers (m : Image) : Option Failure :=
  (firstFailure .manager .manager fun i : Fin 4 =>
    let e := m.managers[i]
    if e.address = 0 then e.operate || e.configure
    else (!e.read && !e.operate && !e.configure) ||
      (List.finRange 4).any fun j => decide (j.val < i.val) && decide (m.managers[j].address = e.address)).orElse
  fun _ => if m.managers.toList.any (·.configure) then none else some { reason := .manager, table := .manager, entry := 0 }

/-- The content checks, in the order of the table of R152. -/
def contentChecks (own : Byte) (m : Image) : Option Failure :=
  (checkPoint m).orElse fun _ => (checkSlot m).orElse fun _ => (checkAddress own m).orElse fun _ =>
    (checkFiring m).orElse fun _ => (checkSections m).orElse fun _ => checkManagers m

/-- A feeder state from which a change of the slot's address is allowed (LIVE_SLOT). -/
def idleForSlot : FeederState → Bool
  | .opened | .disabled | .lockout => true
  | .unresolved | .testWait | .testing | .closing | .closed | .opening | .tripping | .deadTime | .remoteWait
  | .breakerFail => false

/-- LIVE_FEEDER: a feeder taken out of service in a state other than OPEN or LOCKOUT. -/
def checkLiveFeeder (s : State) (m : Image) : Option Failure :=
  firstFailure .liveFeeder .feeder fun f : Fin 8 =>
    inService s f && !m.feeders[f].inService &&
      decide ((s.feeder f).state ≠ .opened) && decide ((s.feeder f).state ≠ .lockout)

/-- LIVE_SLOT: the address of slot 0 to 7 changed while the slot's feeder is in service and not OPEN, DISABLED or
LOCKOUT. -/
def checkLiveSlot (s : State) (m : Image) : Option Failure :=
  firstFailure .liveSlot .breaker fun k : Fin 9 =>
    decide (k ≠ 8) && decide (m.breakers[k].address ≠ s.img.breakers[k].address) &&
      (match feederOfSlot s.img k with
        | some f => !idleForSlot (s.feeder f).state
        | none => false)

/-- LIVE_RECTIFIER: the address of slot 8 changed while the rectifier is not STOPPED. -/
def checkLiveRectifier (s : State) (m : Image) : Option Failure :=
  if m.breakers[(8 : Fin 9)].address ≠ s.img.breakers[(8 : Fin 9)].address ∧ s.rct.state ≠ .stopped
  then some { reason := .liveRectifier, table := .breaker, entry := 8 } else none

/-- The change checks of a candidate against the in-use image and the state as it stands (R152). -/
def changeChecks (s : State) (m : Image) : Option Failure :=
  (checkLiveFeeder s m).orElse fun _ => (checkLiveSlot s m).orElse fun _ => checkLiveRectifier s m

/-- Validation of a candidate: the content checks, then the change checks (R152). -/
def validate (s : State) (m : Image) : Option Failure :=
  (contentChecks s.rp.own m).orElse fun _ => changeChecks s m

/-- A stored image is loadable: marked valid, its check good, every entry and content check passed (R159). -/
def loadable (own : Byte) (valid checkGood : Bool) (m : Image) : Bool :=
  valid && checkGood && entriesPass m && (contentChecks own m).isNone

end Sys2Proof.Machine
end

