-- ==== Sys2Proof/Machine/LineTest.lean ====
section
/-! DEFINITION. A feeder's change of state with its parts in FPR and LTU (chapter 4), and LTU's test queue and test
circuit up to the results it presents (chapter 5). -/

namespace Sys2Proof.Machine

/-! ### The test queue (R101, R102) -/

/-- An entry placed behind every entry of its class and, for RECLOSE, before every OPERATOR entry (R101). -/
def enqueueTest (f : Fin 8) (c : CloseClass) (q : List (Fin 8 × CloseClass)) : List (Fin 8 × CloseClass) :=
  match c with
  | .operator => q ++ [(f, c)]
  | .reclose => q.filter (fun e => decide (e.2 = .reclose)) ++ (f, c) :: q.filter (fun e => decide (e.2 = .operator))

/-- An entry placed at the head of its class (R102). -/
def requeueTest (f : Fin 8) (c : CloseClass) (q : List (Fin 8 × CloseClass)) : List (Fin 8 × CloseClass) :=
  match c with
  | .reclose => (f, c) :: q
  | .operator => q.filter (fun e => decide (e.2 = .reclose)) ++ (f, c) :: q.filter (fun e => decide (e.2 = .operator))

/-- A feeder's entry removed; the entries behind it close up (R101). -/
def dequeueTest (f : Fin 8) (q : List (Fin 8 × CloseClass)) : List (Fin 8 × CloseClass) :=
  q.filter fun e => decide (e.1 ≠ f)

/-- The queue after a feeder's change of state: an entry added on entry into TEST_WAIT, at the head of its class after
a requeue, and removed on departure (R101, R102). -/
def queueAfter (f : Fin 8) (old new : FeederState) (c : CloseClass) (head : Bool) (q : List (Fin 8 × CloseClass)) :
    List (Fin 8 × CloseClass) :=
  if new = .testWait then
    if old = .testWait then q else if head then requeueTest f c q else enqueueTest f c q
  else if old = .testWait then dequeueTest f q else q

/-! ### A feeder's change of state -/

/-- The states that have a close class (section 4.2). -/
def hasClass : FeederState → Bool
  | .testWait | .testing | .closing => true
  | .unresolved | .disabled | .opened | .closed | .opening | .tripping | .deadTime | .remoteWait | .lockout
  | .breakerFail => false

/-- The feeder record in a new state: the class held only by a close attempt, the dead time index and its mark only by
DEAD_TIME, the state timer stopped, the reclaim timer stopped on leaving CLOSED, and the shots reloaded on entry into
OPEN (section 4.2, R92). -/
def feederIn (configuredShots : Nat) (new : FeederState) (c : CloseClass) (r : Feeder) : Feeder :=
  { r with
    state := new
    cls := if hasClass new then some c else none
    deadIndex := none
    deadElapsed := false
    stateTimer := none
    fromClosed := false
    reclaim := if r.state = .closed ∧ new ≠ .closed then none else r.reclaim
    shots := if new = .opened then configuredShots else r.shots }

/-- A feeder's change of state, made known at the change to LTU's queue and to FPR (section 4.2, R101). -/
def moveFeeder (f : Fin 8) (new : FeederState) (c : CloseClass) (head : Bool) (s : State) : State :=
  let old := (s.feeder f).state
  let s1 := s.setFeeder f (feederIn s.img.feeders[f].shots new c (s.feeder f))
  let s2 := s1.setLtu { s1.ltu with queue := queueAfter f old new c head s1.ltu.queue }
  fprStateChange f old new s2

/-- A state with no close class entered. -/
def enterState (f : Fin 8) (new : FeederState) (s : State) : State := moveFeeder f new .operator false s

/-- The state timer of a feeder started from 0. -/
def startTimer (f : Fin 8) (s : State) : State := s.setFeeder f { s.feeder f with stateTimer := some s.now }

/-- The class of a feeder's close attempt. -/
def classOf (s : State) (f : Fin 8) : CloseClass := (s.feeder f).cls.getD .operator

/-! ### The end of a test -/

/-- The requeue that LTU presents for the tested feeder: TESTING to TEST_WAIT, same class, at the head of its class
(R88, R102). -/
def presentRequeue (r : TestRecord) (s : State) : State :=
  match r.feeder with
  | some f => if (s.feeder f).state = .testing then moveFeeder f .testWait r.cls true s else s
  | none => s

/-- The rows of R115's table, by their numbers. -/
inductive CircuitFault where
  | noOn | droppedOut | noOff | stray
  deriving DecidableEq, Repr

/-- The number of a circuit fault (11.5). -/
def faultNumber : CircuitFault → Nat
  | .noOn => 1
  | .droppedOut => 2
  | .noOff => 3
  | .stray => 4

/-- Entry into OUT_OF_SERVICE (R115): TEST_OFF to the tested slot unless one is outstanding there, and to each slot that
reports its contactor ON, in rising slot number (notes/assumptions/40.md), but in either case not to the slot of a DISABLED
feeder, to which nothing is sent (R78), nor to a slot that is not fitted, where no unit stands. DESIGN CHOICE
(notes/assumptions/43.md). A slot that no feeder names is sent it. The requeue of a feeder in TESTING; the record removed;
TEST_CIRCUIT_FAULT logged. -/
def outOfService (k : Fin 8) (fault : CircuitFault) (s : State) : State :=
  let tested := s.ltu.record
  let s1 := match tested with
    | some r => presentRequeue r s
    | none => s
  let s2 := s1.setLtu { s1.ltu with circuit := .outOfService, record := none }
  let s3 := match tested with
    | some r =>
      if releasable s2.img r.slot.castSucc && !testOffOutstanding (s2.slot r.slot.castSucc)
      then issueOnly r.slot.castSucc .testOff s2 else s2
    | none => s2
  let isTested := fun j : Fin 8 =>
    match tested with
    | some r => decide (r.slot = j)
    | none => false
  let s4 := forEach 8 (fun j x =>
    if releasable x.img j.castSucc && contactorOn x j.castSucc && !isTested j then issueOnly j.castSucc .testOff x
    else x) s3
  logEvent .testCircuit .testCircuitFault { tag := some k.val, number := some (faultNumber fault) } s4

/-- A test is in CONNECTING, SETTLING or MEASURING. -/
def testInProgress : CircuitState → Bool
  | .connecting | .settling | .measuring => true
  | .idle | .disconnecting | .outOfService => false

/-- TEST_OFF issued to the tested slot, and DISCONNECTING entered with the stage timer restarted; a TEST_OFF lost takes
the circuit out of service (R110, R112). -/
def disconnect (r : TestRecord) (s : State) : State :=
  let s1 := s.setLtu { s.ltu with circuit := .disconnecting, record := some { r with stage := some s.now } }
  let x := issueCommand r.slot.castSucc .testOff s1
  if x.2 then x.1 else outOfService r.slot .noOff x.1

/-- An abort with requeue (R110): TEST_ABORT logged, the sums discarded, the requeue presented at the same event, and
DISCONNECTING entered. TEST_ABORT stands before the COMMAND_LOST of a TEST_OFF that meets a full queue.
DESIGN CHOICE (notes/assumptions/15.md). -/
def abortTest (cause : Cause) (s : State) : State :=
  if testInProgress s.ltu.circuit then
    match s.ltu.record with
    | none => s
    | some r =>
      let s1 := match r.feeder with
        | some f => logEvent (.feeder f) .testAbort { causes := [.cause cause] } s
        | none => s
      disconnect { r with outcome := .requeue, lineSum := 0, busSum := 0, count := 0 } (presentRequeue r s1)
  else s

/-- A feeder's departure from TESTING by an open, an uncommanded close or a breaker failure (R113, R80): the record
loses its feeder and its outcome, and TEST_OFF is issued unless the circuit is already DISCONNECTING. TEST_ABORT stands
before the COMMAND_LOST of a TEST_OFF that meets a full queue. DESIGN CHOICE (notes/assumptions/15.md). -/
def testDeparture (f : Fin 8) (cause : Cause) (s : State) : State :=
  match s.ltu.record with
  | none => s
  | some r =>
    if r.feeder = some f then
      let s1 := logEvent (.feeder f) .testAbort { causes := [.cause cause] } s
      let r1 := { r with feeder := none, outcome := .none }
      if testInProgress s1.ltu.circuit then disconnect r1 s1
      else s1.setLtu { s1.ltu with record := some r1 }
    else s

/-! ### Deference, stray contactors, measuring -/

/-- Deference applies (R111): the remote end of the tested feeder's section is TESTING and the local station id is
greater than the remote one. -/
def defers (s : State) : Bool :=
  match s.ltu.record with
  | some r =>
    match r.feeder with
    | some f =>
      match sectionOf s.img f with
      | some i =>
        decide (s.sco.sections[i].remote = .testing) &&
          (match (s.link s.img.sections[i].port).remoteId with
            | some id => decide (id < s.img.station.stationId)
            | none => false)
      | none => false
    | none => false
  | none => false

/-- LTU looks at deference (R111). -/
def deferenceCheck (s : State) : State :=
  if testInProgress s.ltu.circuit && defers s then abortTest .deference s else s

/-- LTU's part in a change of rectifier state (R110): a test in SETTLING or MEASURING is aborted when the rectifier
leaves REGULATING and LIMITING. -/
def ltuRectChange (s : State) : State :=
  if (s.ltu.circuit = .settling ∨ s.ltu.circuit = .measuring) ∧ regulates s.rct.state = false then
    abortTest .rectNotRegulating s
  else s

/-- LTU's part in the expiry of a point's freshness timer (R108): a test in MEASURING is aborted when the tested feeder's
line voltage point or the bus voltage point becomes STALE. -/
def ltuPointStale (p : Fin 32) (s : State) : State :=
  if s.ltu.circuit = .measuring then
    match s.ltu.record with
    | some r =>
      let isLine := match r.feeder with
        | some f => decide (s.img.feeders[f].linePoint = p)
        | none => false
      if isLine || decide (s.img.rect.busPoint = p) then abortTest .measLoss s else s
    | none => s
  else s

/-- The slot is the tested slot. -/
def testedSlot (s : State) (k : Fin 8) : Bool :=
  match s.ltu.record with
  | some r => decide (r.slot = k)
  | none => false

/-- The stray contactor's TEST_OFF lost at once takes the circuit out of service, unless it is already there (R114,
R115). -/
def strayIssued (k : Fin 8) (placed : Bool) (s : State) : State :=
  if placed || decide (s.ltu.circuit = .outOfService) then s else outOfService k .stray s

/-- A stray contactor (R114): TEST_OFF issued unless one is outstanding, its 50 ms limit timed from that TEST_OFF,
TEST_CONTACTOR_STRAY logged, and a test in progress aborted. A TEST_OFF lost takes the circuit out of service. The event
stands before the COMMAND_LOST of a TEST_OFF that meets a full queue. DESIGN CHOICE (notes/assumptions/15.md). -/
def strayContactor (k : Fin 8) (s : State) : State :=
  let s1 := logEvent (.slot k.castSucc) .testContactorStray {} s
  let sl := s1.slot k.castSucc
  match sl.contactorCmd with
  | some c =>
    if c.cmd = .testOff then
      abortTest .strayContactor (s1.setLtu { s1.ltu with strays := s1.ltu.strays ++ [(k, c.sentAt)] })
    else
      let x := issueCommand k.castSucc .testOff (s1.setLtu { s1.ltu with strays := s1.ltu.strays ++ [(k, s1.now)] })
      strayIssued k x.2 (abortTest .strayContactor x.1)
  | none =>
    let x := issueCommand k.castSucc .testOff (s1.setLtu { s1.ltu with strays := s1.ltu.strays ++ [(k, s1.now)] })
    strayIssued k x.2 (abortTest .strayContactor x.1)

/-- A slot's stray contactor stands. -/
def isStray (s : State) (k : Fin 8) : Bool := s.ltu.strays.any fun e => decide (e.1 = k)

/-- The line average, the bus average and R_line of the sums (R109). -/
def lineResistance (t : TestEntry) (lineSum busSum : Int) : Measured :=
  let line := max 0 (floorDiv (lineSum + 8) 16)
  let bus := floorDiv (busSum + 8) 16
  if bus - line ≤ 0 then { result := .noCurrent, lineAvg := line, busAvg := bus, resistance := none }
  else
    let r := (floorDiv ((t.rTest : Int) * line) (bus - line)).toNat
    let r1 := min r 1000000
    { result := if t.rPass ≤ r1 then .pass else .fail
      lineAvg := line, busAvg := bus, resistance := some (r1, decide (1000000 < r)) }

/-- The measurement complete (R109): the outcome takes the result, and TEST_OFF is issued. -/
def completeMeasurement (r : TestRecord) (s : State) : State :=
  disconnect { r with outcome := .result (lineResistance s.img.test r.lineSum r.busSum) } s

/-- The line values that a presentation of advance g stands for, oldest first: slots g − 1 down to 1 of the history and
the presented value (R108). -/
def addPositions (bus : Int) (values : List Int) (r : TestRecord) : TestRecord :=
  values.foldl (fun r v =>
    if r.count < 16 then { r with lineSum := r.lineSum + v, busSum := r.busSum + bus, count := r.count + 1 } else r) r

/-- A presentation of a line or bus voltage in MEASURING (R108). Before a bus value is taken after a warm reset, line
positions are not counted (R118). A line value pairs with the bus value that LTU holds when it takes the line value; the
points of one frame come in rising point number, so that a line point below the bus point pairs with the bus value of
the frame before. DESIGN CHOICE (notes/assumptions/10.md). -/
def measure (pr : Presentation) (s : State) : State :=
  match s.ltu.circuit, s.ltu.record with
  | .measuring, some r =>
    if pr.point = s.img.rect.busPoint then
      s.setLtu { s.ltu with record := some { r with bus := some pr.value } }
    else
      match r.feeder, r.bus with
      | some f, some bus =>
        if s.img.feeders[f].linePoint = pr.point then
          let r1 := addPositions bus (positionsOf pr.history pr.advance pr.value) r
          if 16 ≤ r1.count then completeMeasurement r1 s
          else s.setLtu { s.ltu with record := some r1 }
        else s
      | _, _ => s
  | _, _ => s

/-- The circuit enters MEASURING (R107): the sums and the count at 0, the bus value the bus voltage point's last value,
and presentations counted from then on. A point that holds no value gives no bus value, and line positions are not counted
until a bus value is presented. DESIGN CHOICE (notes/assumptions/39.md). -/
def enterMeasuring (r : TestRecord) (s : State) : State :=
  { s with
    ltu := { s.ltu with
      circuit := .measuring
      record := some { r with
        stage := none, lineSum := 0, busSum := 0, count := 0, bus := pointValue s s.img.rect.busPoint } }
    msu := { s.msu with presentations := s.msu.presentations.filter fun p => decide (p.target ≠ .lineTest) } }

end Sys2Proof.Machine
end

