-- ==== Sys2Proof/Machine/Feeders.lean ====
section
/-! DEFINITION. FSQ's feeder state machine, but for TRIPPING: closing, failed closes, lockout, reclosing, opening, the
results of line tests, and LTU's grants (chapters 4 and 5). -/

namespace Sys2Proof.Machine

/-- The trip causes of the last trip record, as codes. -/
def lastCauses (s : State) (f : Fin 8) : List Code :=
  match (s.feeder f).lastTrip with
  | some t => t.causes.map .cause
  | none => []

/-- The lockout flag set and written through SST (R91). -/
def setLockout (f : Fin 8) (s : State) : State :=
  requestFlagsWrite (s.setFeeder f { s.feeder f with lockoutFlag := true })

/-- The lockout flag cleared and written, if it was set (R78, R89). -/
def clearLockout (f : Fin 8) (s : State) : State :=
  if (s.feeder f).lockoutFlag then requestFlagsWrite (s.setFeeder f { s.feeder f with lockoutFlag := false }) else s

/-- Entry into LOCKOUT (R91): the flag set and written unless it is already set, and FEEDER_LOCKOUT logged; the alarm is
latched at the entry, before anything that follows can leave the state (R165). -/
def enterLockout (f : Fin 8) (s : State) : State :=
  let s1 := enterState f .lockout s
  let s2 := if (s1.feeder f).lockoutFlag then s1 else setLockout f s1
  latchRises s (logEvent (.feeder f) .feederLockout { causes := lastCauses s2 f } s2)

/-- The number field of a BREAKER_FAIL event: the reported position's code, or absent (11.5). -/
def positionNumber (s : State) (k : Fin 9) : Option Nat := (position s k).map positionCode

/-- A slot's breaker command is no longer outstanding: the time limit of the state that sent it has ended it (R75). -/
def dropBreakerCmd (k : Fin 9) (s : State) : State := s.setSlot k { s.slot k with breakerCmd := none }

/-- BREAKER_FAIL held (R80, R84, R86): repetition of a TRIP stops, and the lockout flag is set and written. -/
def holdBreakerFail (f : Fin 8) (s : State) : State :=
  setLockout f (enterState f .breakerFail (dropBreakerCmd (slotOf s.img f) s))

/-- The BREAKER_FAIL event of a feeder, with the reported position. -/
def logBreakerFail (f : Fin 8) (causes : List Code) (s : State) : State :=
  logEvent (.feeder f) .breakerFail { causes := causes, number := positionNumber s (slotOf s.img f) } s

/-- Entry into BREAKER_FAIL with its event (R80, R86). -/
def enterBreakerFail (f : Fin 8) (causes : List Code) (s : State) : State := logBreakerFail f causes (holdBreakerFail f s)

/-- The open watch of a feeder slot fails (R80): the watch stops, and the slot's feeder enters BREAKER_FAIL without
rectifier backup; a test in progress on it ends as at an open (R113). Where a switch has made the feeder DISABLED the watch
ends with no other effect. DESIGN CHOICE (notes/assumptions/37.md). -/
def openWatchFails (k : Fin 9) (s : State) : State :=
  let s1 := s.setSlot k { s.slot k with openWatch := none }
  match feederOfSlot s1.img k with
  | none => s1
  | some f =>
    let testing := decide ((s1.feeder f).state = .testing)
    let s2 := enterBreakerFail f [] s1
    if testing then testDeparture f .opened s2 else s2

/-- Entry into DEAD_TIME with the dead time running (R83, R80): the index is the configured shots minus the shots
remaining. -/
def enterDeadTime (f : Fin 8) (s : State) : State :=
  let s1 := enterState f .deadTime s
  s1.setFeeder f { s1.feeder f with deadIndex := some (shotNumber s1 f), stateTimer := some s1.now }

/-- A failed reclose shot (R80, R88): DEAD_TIME with the next index if shots remain, otherwise LOCKOUT. -/
def failedShot (f : Fin 8) (s : State) : State :=
  if 0 < (s.feeder f).shots then
    enterDeadTime f (s.setFeeder f { s.feeder f with shots := (s.feeder f).shots - 1 })
  else enterLockout f s

/-- Where a failed close leaves the feeder by its class (R80). -/
def afterFailedClose (f : Fin 8) (c : CloseClass) (s : State) : State :=
  match c with
  | .operator => enterState f .opened s
  | .reclose => failedShot f s

/-- A close has failed (R80): OPEN issued with the open watch started, CLOSE_FAIL raised and logged, and the feeder in
OPEN, DEAD_TIME or LOCKOUT; an OPEN lost at once fails the watch. -/
def closeFailed (f : Fin 8) (tag : Option Nat) (s : State) : State :=
  let k := slotOf s.img f
  let c := classOf s f
  let x := issueCommand k .open s
  let s1 := x.1.setSlot k { x.1.slot k with openWatch := some x.1.now }
  let s2 := logEvent (.feeder f) .closeFail { tag := tag } (pulse .closeFail s1)
  let s3 := afterFailedClose f c s2
  if x.2 then s3 else openWatchFails k s3

/-- Entry into CLOSING (R80): CLOSE issued and the state timer started; a CLOSE lost at once is a failed close. -/
def enterClosing (f : Fin 8) (c : CloseClass) (s : State) : State :=
  let k := slotOf s.img f
  let tag := (s.slot k).nextTag.toNat
  let x := issueCommand k .close (startTimer f (moveFeeder f .closing c false s))
  if x.2 then x.1 else closeFailed f (some tag) x.1

/-- The tag of a slot's outstanding CLOSE, for the CLOSE_FAIL event. -/
def closeTag (s : State) (k : Fin 9) : Option Nat :=
  match (s.slot k).breakerCmd with
  | some c => if c.cmd = .close then some c.tag.toNat else none
  | none => none

/-- CLOSED reported in CLOSING (R80): the closes counter, the reclaim timer, and by the class the shots and the reclose
mark. -/
def closeDone (f : Fin 8) (s : State) : State :=
  let c := classOf s f
  let s1 := enterState f .closed s
  let r := s1.feeder f
  let r1 := { r with closes := satAdd top32 r.closes 1, reclaim := some s1.now }
  s1.setFeeder f (match c with
    | .operator => { r1 with shots := s1.img.feeders[f].shots, recloseActive := false }
    | .reclose => { r1 with recloseActive := true })

/-- The wait in REMOTE_WAIT looked at (R90): the link, the remote end state and the line as they stand. -/
def remoteWaitLook (f : Fin 8) (s : State) : State :=
  if (s.feeder f).state = .remoteWait then
    match sectionOf s.img f with
    | none => s
    | some i =>
      if (s.link s.img.sections[i].port).up = false then
        logEvent (.feeder f) .linkLost {} (enterState f .opened s)
      else
        match s.sco.sections[i].remote with
        | .held => logEvent (.feeder f) .remoteLockout {} (enterState f .opened s)
        | .fed =>
          if lineLive s f && !(s.feeder f).mask && !(s.feeder f).permit then enterClosing f .reclose s else s
        | .none | .tripped | .testing | .waiting => s
  else s

/-- Entry into REMOTE_WAIT (R83, R90). -/
def enterRemoteWait (f : Fin 8) (s : State) : State := remoteWaitLook f (startTimer f (enterState f .remoteWait s))

/-- The trip outcome (R83): the first row of its table whose condition holds. -/
def tripOutcome (f : Fin 8) (causes : List Cause) (s : State) : State :=
  let r := s.feeder f
  if r.permit then enterLockout f s
  else if causes.contains .measLoss || causes.contains .overflow then enterLockout f s
  else if causes = [.intertrip] then enterRemoteWait f s
  else if r.withinReclaim && !r.recloseActive then enterLockout f s
  else failedShot f s

/-- R87's conditions looked at: the dead time elapsed, and the restart inhibit, the close mask and the work permit
clear; then TEST_WAIT of reclose class. -/
def deadTimeLook (f : Fin 8) (s : State) : State :=
  if (s.feeder f).state = .deadTime ∧ (s.feeder f).stateTimer = none ∧ (s.prot f).inhibit = false ∧
      (s.feeder f).mask = false ∧ (s.feeder f).permit = false then
    moveFeeder f .testWait .reclose false s
  else s

/-- A re-entry into DEAD_TIME with the same shot and the dead time already served (R88). The index is taken anew as the
configured shots minus the shots remaining, which after a switch may differ from the earlier index of the shot.
DESIGN CHOICE (notes/assumptions/31.md). -/
def reenterDeadTime (f : Fin 8) (s : State) : State :=
  let s1 := enterState f .deadTime s
  s1.setFeeder f { s1.feeder f with deadIndex := some (shotNumber s1 f), deadElapsed := true }

/-- A presentation that would enter CLOSING (R88): held back by the close mask or the work permit. -/
def closeOrHold (f : Fin 8) (s : State) : State :=
  if (s.feeder f).mask || (s.feeder f).permit then
    match classOf s f with
    | .operator => logEvent (.feeder f) .closeHeld {} (enterState f .opened s)
    | .reclose => reenterDeadTime f s
  else enterClosing f (classOf s f) s

/-- A test result presented to FSQ (R88); in another state than those of its table it is discarded. -/
def testResult (f : Fin 8) (m : Measured) (s : State) : State :=
  match (s.feeder f).state, m.result with
  | .testWait, .pass => closeOrHold f s
  | .testing, .pass => closeOrHold f s
  | .testing, .fail =>
    match classOf s f with
    | .operator => logEvent (.feeder f) .testFailed { resistance := m.resistance } (enterState f .opened s)
    | .reclose => failedShot f s
  | .testWait, .live => liveResult s
  | .testing, .live => liveResult s
  | .testWait, .noCurrent => liveResult s
  | .testing, .noCurrent => liveResult s
  | _, _ => s
where
  /-- LIVE or NO_CURRENT: a live-line close with live permission, otherwise OPEN with LIVE_SOURCE_UNKNOWN. -/
  liveResult (s : State) : State :=
    if livePermission s f then closeOrHold f s else pulse .liveSourceUnknown (enterState f .opened s)

/-! ### LTU's arbiter (R103 to R105) -/

/-- An entry of the queue is eligible for a grant (R103). -/
def eligible (s : State) (f : Fin 8) : Bool :=
  (lineValue s f).isSome && decide (remoteEnd s f ≠ .testing) &&
    (s.img.breakers[slotOf s.img f].hasContactor || lineLive s f)

/-- The conditions of a grant other than an eligible entry (R104), and no stray contactor standing (R114). -/
def mayGrant (s : State) : Bool :=
  decide (s.ltu.circuit = .idle) && regulates s.rct.state &&
    (match usableValue s s.img.rect.busPoint with
      | some v => decide ((s.img.test.vTestMin : Int) ≤ v)
      | none => false) &&
    !((List.finRange 9).any fun k => contactorSlot s.img k && contactorOn s k) && s.ltu.strays.isEmpty

/-- A grant to an entry (R105): the pre-check gives LIVE on a live line; otherwise a test starts. TEST_START carries the
class as its code in the number field, and stands before the COMMAND_LOST of a TEST_ON that meets a full queue. LINE_TEST
stands before what FSQ logs on the result LIVE. DESIGN CHOICE (notes/assumptions/15.md). -/
def grant (f : Fin 8) (c : CloseClass) (s : State) : State :=
  if lineLive s f then
    let m : Measured := { result := .live, lineAvg := (lineValue s f).getD 0, busAvg := 0, resistance := none }
    testResult f m (logEvent (.feeder f) .lineTest { causes := [.cause .live], voltage := lineValue s f } s)
  else
    let k : Fin 8 := s.img.feeders[f].slot
    let r : TestRecord :=
      { feeder := some f, cls := c, slot := k, stage := some s.now, lineSum := 0, busSum := 0, count := 0, bus := none,
        outcome := .none }
    let s1 := moveFeeder f .testing c false s
    let s2 := s1.setLtu { s1.ltu with circuit := .connecting, record := some r }
    let s3 := logEvent (.feeder f) .testStart { voltage := lineValue s f, number := some (classCode c) } s2
    let x := issueCommand k.castSucc .testOn s3
    if x.2 then x.1 else outOfService k .noOn x.1

/-- The arbiter looks at the queue (R104); a pre-check that ends without a test leaves it looking again at once. -/
def arbitrateLoop : Nat → State → State
  | 0, s => s
  | n + 1, s =>
    if mayGrant s then
      match s.ltu.queue.find? fun e => eligible s e.1 with
      | some e => arbitrateLoop n (grant e.1 e.2 s)
      | none => s
    else s

/-- The arbiter looks at the queue; it gives at most one answer to each of the 8 feeders at one event. -/
def arbitrate (s : State) : State := arbitrateLoop 8 s

/-- The reported contactor OFF ends a test (R112): IDLE, the record removed, and the outcome acted on. LINE_TEST stands
before what FSQ logs on the result. DESIGN CHOICE (notes/assumptions/15.md). -/
def testEnds (r : TestRecord) (s : State) : State :=
  let s1 := s.setLtu { s.ltu with circuit := .idle, record := none }
  match r.outcome, r.feeder with
  | .result m, some f =>
    let s2 := s1.setLtu { s1.ltu with lastTest := some (f, m) }
    testResult f m (logEvent (.feeder f) .lineTest
      { causes := [.cause (resultCause m.result)], voltage := some m.lineAvg, resistance := m.resistance } s2)
  | _, _ => s1

/-! ### Resolution and positions, but for TRIPPING -/

/-- A feeder that resolves into CLOSED (R78). -/
def resolveClosed (f : Fin 8) (s : State) : State :=
  let keeps := (s.feeder f).fromClosed
  let s1 := enterState f .closed s
  let r := s1.feeder f
  let s2 := if keeps then s1 else
    s1.setFeeder f { r with shots := s1.img.feeders[f].shots, recloseActive := false, reclaim := none }
  clearLockout f s2

/-- An UNRESOLVED feeder resolves from a reported position (R78); MOVING and FAULT leave it UNRESOLVED. -/
def resolve (f : Fin 8) (p : Position) (s : State) : State :=
  match p with
  | .closed => resolveClosed f s
  | .opened =>
    let s1 := s.setFeeder f { s.feeder f with reclaim := none }
    if (s1.feeder f).lockoutFlag then enterLockout f s1 else enterState f .opened s1
  | .moving | .fault => s

/-- An uncommanded close (R89). -/
def uncommandedClose (f : Fin 8) (s : State) : State :=
  let testing := decide ((s.feeder f).state = .testing)
  let s1 := enterState f .closed s
  let s2 := s1.setFeeder f { s1.feeder f with
    shots := s1.img.feeders[f].shots, recloseActive := false, reclaim := none }
  let s3 := clearLockout f (logEvent (.feeder f) .uncommandedClose {} s2)
  if testing then testDeparture f .closed s3 else s3

/-- Entry into OPENING (R86): OPEN issued and the state timer started; an OPEN lost at once ends in BREAKER_FAIL. -/
def enterOpening (f : Fin 8) (s : State) : State :=
  let s1 := enterState f .opening s
  let s2 := s1.setFeeder f { s1.feeder f with reclaim := none, stateTimer := some s1.now }
  let x := issueCommand (slotOf s.img f) .open s2
  if x.2 then x.1 else enterBreakerFail f [] x.1

/-- RECLAIM_END (R85): the timer stops, shots are reloaded and reclose active is cleared; the event carries the shot
number from before the reload. -/
def reclaimExpires (f : Fin 8) (s : State) : State :=
  let n := shotNumber s f
  logEvent (.feeder f) .reclaimEnd { shot := some n }
    (s.setFeeder f { s.feeder f with
      reclaim := none, shots := s.img.feeders[f].shots, recloseActive := false })

end Sys2Proof.Machine
end

