-- ==== Sys2Proof/Machine/Rectifier.lean ====
section
/-! DEFINITION. RCT (chapter 3) with the group breaker on slot 8 that FSQ acts in for it (R95): the regulator, the
current limit, the firing table, setpoints, phase-back, trips, starting and stopping. -/

namespace Sys2Proof.Machine

/-! ### The firing table and the setpoints -/

/-- The firing angle of a demand, by linear interpolation with ceiling (R54). -/
def firingAngle (m : Image) (d : Int) : Int :=
  let j := (floorDiv d 32).toNat
  let f := d - 32 * (j : Int)
  if 32 ≤ j then (m.firing[(32 : Fin 33)] : Int)
  else
    let a : Int := m.firing.toList.getD j 0
    let b : Int := m.firing.toList.getD (j + 1) 0
    a + ceilDiv ((b - a) * f) 32

/-- The GATE_SETPOINT payload: FIRE with α while firing, BLOCK otherwise (R55, 11.2). -/
def setpointPayload (r : Rect) : List Byte :=
  if firing r then
    match r.alpha with
    | some a => 1 :: beBytes 2 a
    | none => 0 :: beBytes 2 0
  else 0 :: beBytes 2 0

/-- A setpoint frame to an address. -/
def setpointFrame (s : State) (dst : Byte) (payload : List Byte) : RingFrame :=
  { dst := dst, src := s.rp.own, kind := kindGateSetpoint, payload := payload }

/-- A setpoint placed for an address (R141). -/
def sendSetpoint (dst : Byte) (payload : List Byte) (s : State) : State :=
  s.setRp (placeSetpoint [s.img.rect.gateA, s.img.rect.gateB] (setpointFrame s dst payload) s.rp)

/-- Both setpoints sent (R55), the one for gate unit A placed before the one for gate unit B.
DESIGN CHOICE (notes/assumptions/40.md). -/
def sendSetpoints (s : State) : State :=
  let p := setpointPayload s.rct
  sendSetpoint s.img.rect.gateB p (sendSetpoint s.img.rect.gateA p s)

/-- The output demand set, with α taken from it (R54). -/
def withDemand (m : Image) (d : Option Int) (r : Rect) : Rect := { r with out := d, alpha := d.map (firingAngle m) }

/-! ### Changes of state -/

/-- The bus voltage point has no presented value: STALE or UNMAPPED (R59). -/
def busLost (s : State) : Bool :=
  decide ((s.point s.img.rect.busPoint).state = .stale) || decide ((s.point s.img.rect.busPoint).state = .unmapped)

/-- A rectifier state entered, with the bus-loss timer started on entry into a running state while the bus voltage point
is lost (R59). -/
def rectEnter (st : RectState) (s : State) : State :=
  let starts := running st && !running s.rct.state && busLost s
  s.setRct { s.rct with state := st, busLoss := if starts then some s.now else s.rct.busLoss }

/-- A change of rectifier state made known to FPR and LTU (R35, R37, R49, R110). -/
def rectNotify (s : State) : State :=
  ltuRectChange (if suppresses s.rct.state then uvCheckAll s else s)

/-- The demands and the timers of a state that does not run (R66, R68). -/
def rectHalt (r : Rect) : Rect :=
  { r with
    out := none, alpha := none, dSs := none, dRest := none, pbTimer := none, busLoss := none
    gateA := { r.gateA with sync := none }
    gateB := { r.gateB with sync := none } }

/-- GATE_FAULT logged for a unit that enters gate fault (R56). -/
def noteGateFault (before : Rect) (u : GateUnit) (s : State) : State :=
  if gateFault before u = false ∧ gateFault s.rct u = true then
    logEvent .rectifier .gateFault
      { causes := [.cause (if (s.rct.gate u).silent then .silent else .lost)],
        tag := some (gateAddress s.img u).toNat } s
  else s

/-- The same for both units, at the event that changed the record from `before`; a condition of GATE_FAULT that rises at
it is latched before anything that follows from the event can end it (R165). -/
def noteGateFaults (before : Rect) (s : State) : State :=
  latchRises (s.setRct before) (noteGateFault before .b (noteGateFault before .a s))

/-! ### The group breaker (R95) -/

/-- Slot 8 fails to open: FAILED, its command no longer outstanding, with BREAKER_FAIL logged. -/
def groupFails (s : State) : State :=
  let s0 := s.setSlot 8 { s.slot 8 with breakerCmd := none }
  let s1 := s0.setFsq { s0.fsq with groupState := .failed, groupTimer := none }
  logEvent (.slot 8) .breakerFail { number := positionNumber s1 8 } s1

/-- The open watch of slot 8 fails (R95). -/
def groupWatchFails (s : State) : State := groupFails (s.setSlot 8 { s.slot 8 with openWatch := none })

/-- A failed close of slot 8 (R95): OPEN issued with the open watch started, CLOSE_FAIL raised and logged, IDLE; an OPEN
lost at once ends in FAILED. -/
def groupCloseFails (tag : Option Nat) (s : State) : State :=
  let x := issueCommand 8 .open s
  let s1 := x.1.setSlot 8 { x.1.slot 8 with openWatch := some x.1.now }
  let s2 := s1.setFsq { s1.fsq with groupState := .idle, groupTimer := none }
  let s3 := logEvent (.slot 8) .closeFail { tag := tag } (pulse .closeFail s2)
  if x.2 then s3 else groupWatchFails s3

/-- The outcome of a close request to slot 8 as it is taken. -/
inductive CloseAnswer where
  | done | underWay | failed
  deriving DecidableEq, Repr

/-- A close request from RCT (R95). -/
def groupClose (s : State) : State × CloseAnswer :=
  match s.fsq.groupState with
  | .idle =>
    if position s 8 = some .closed then (s, .done)
    else
      let tag := (s.slot 8).nextTag.toNat
      let x := issueCommand 8 .close (s.setFsq { s.fsq with groupState := .closing, groupTimer := some s.now })
      if x.2 then (x.1, .underWay) else (groupCloseFails (some tag) x.1, .failed)
  | .closing => (s, .underWay)
  | .tripping => (s, .failed)
  | .failed => (s, .failed)

/-- A trip request from RCT (R95); in TRIPPING it changes nothing. -/
def groupTrip (s : State) : State :=
  if s.fsq.groupState = .tripping then s
  else issueOnly 8 .trip (s.setFsq { s.fsq with groupState := .tripping, groupTimer := some s.now })

/-! ### Trips of the rectifier (R66) -/

/-- The RECT_TRIP event of a cause. -/
def logRectTrip (cause : Cause) (s : State) : State :=
  logEvent .rectifier .rectTrip
    { causes := [.cause cause], current := some (rectCurrent s), voltage := some s.rct.vBus } s

/-- Entry into TRIPPED, or a further cause in TRIPPED, which is only logged (R66). -/
def rectTrips (cause : Cause) (s : State) : State :=
  if s.rct.state = .tripped then logRectTrip cause s
  else
    let s1 := rectEnter .tripped s
    let s2 := s1.setRct { rectHalt s1.rct with lastTrip := some cause }
    let s3 := sendSetpoints s2
    let s4 := if s3.rct.groupPos = some .opened ∨ fitted s3.img 8 = false then s3 else groupTrip s3
    rectNotify (captureTrigger .rectTrip (logRectTrip cause s4))

/-! ### Phase-back and restore (R63, R64, R65) -/

/-- A phase-back trigger is taken while firing, outside WAIT_BREAKER (R63). -/
def phaseBackTaken (r : Rect) : Bool := firing r && decide (r.state ≠ .waitBreaker)

/-- A phase-back trigger at a rectifier current (R63): entry or re-entry, with both setpoints sent at once, PHASE_BACK
logged and a capture trigger presented. -/
def phaseBack (cause : Cause) (iRect : Int) (s : State) : State :=
  if phaseBackTaken s.rct then
    let s1 := rectEnter .phaseBack s
    let s2 := s1.setRct (withDemand s1.img (some s1.img.rect.dPb)
      { s1.rct with dSs := none, dRest := none, pbTimer := some s1.now })
    let s3 := logEvent .rectifier .phaseBack { causes := [.cause cause], current := some iRect }
      (sendSetpoints s2)
    rectNotify (captureTrigger .phaseBack s3)
  else s

/-- Phase-back ends in RESTORING (R64, R65): d_rest at d_pb, t_pb_max stopped. -/
def enterRestoring (s : State) : State :=
  let s1 := rectEnter .restoring s
  rectNotify (s1.setRct { s1.rct with dRest := some s1.img.rect.dPb, pbTimer := none })

/-- FSQ's notice that the open-pending set has changed from not empty to empty (R64). -/
def openPendingEmptied (s : State) : State := if s.rct.state = .phaseBack then enterRestoring s else s

/-- The notice given where a set that held feeders holds none. -/
def noticeEmptied (before : State) (s : State) : State :=
  if openPending before ≠ [] ∧ openPending s = [] then openPendingEmptied s else s

/-- The expiry of t_pb_max (R64). -/
def phaseBackExpires (s : State) : State :=
  if (s.img.rect.iRectMax : Int) ≤ rectCurrent s then rectTrips .phaseBackFailed s else enterRestoring s

/-! ### The evaluation (R50 to R53) -/

/-- What the regulator forms: V_ref, e, d_raw and d_reg (R50). -/
structure Regulated where
  vRef : Int
  err  : Int
  dRaw : Int
  dReg : Int
  deriving DecidableEq, Repr

/-- The regulator on a bus voltage and a rectifier current (R50). -/
def regulate (e : RectEntry) (xi vBus iRect : Int) : Regulated :=
  let droop := floorDiv (iRect * e.rDroop) 1000
  let vRef := clamp 0 e.vDi0 (e.vSet - droop)
  let err := clamp (-32767) 32767 (vRef - vBus)
  let dFf := floorDiv (vRef * 1024 + floorDiv e.vDi0 2) e.vDi0
  let dRaw := dFf + floorDiv (e.kP * err) 256 + floorDiv xi 65536
  { vRef := vRef, err := err, dRaw := dRaw, dReg := clamp e.dMin e.dMax dRaw }

/-- The current-limit demand after an evaluation in which the rectifier is firing (R52). -/
def limitDemand (e : RectEntry) (iRect dCl : Int) : Int :=
  if (e.iLim : Int) < iRect then max e.dMin (dCl - ceilDiv ((iRect - e.iLim) * e.kCl) 256)
  else min e.dMax (dCl + e.rampCl)

/-- The bound of the integrator: 2²⁴ (R51). -/
def xiBound : Int := 16777216

/-- The integrator after an evaluation (R51): updated only in REGULATING, and not where that would deepen a
saturation. -/
def integrate (e : RectEntry) (st : RectState) (g : Regulated) (xi : Int) : Int :=
  if st = .regulating then
    if ((e.dMax : Int) < g.dRaw ∧ 0 < g.err) ∨ (g.dRaw < (e.dMin : Int) ∧ g.err < 0) then xi
    else clamp (-xiBound) xiBound (xi + e.kI * g.err)
  else xi

/-- Step 4 of an evaluation (R53, R61, R65): the output demand and the state it may change. -/
def formDemand (e : RectEntry) (g : Regulated) (r : Rect) : Rect :=
  match r.state with
  | .ramp =>
    let ss := r.dSs.getD e.dMin
    if g.dReg ≤ ss then { r with out := some (min g.dReg ss), dSs := none, state := .regulating }
    else { r with out := some (min g.dReg ss), dSs := some (min e.dMax (ss + e.rampStart)) }
  | .regulating | .limiting =>
    { r with out := some (min g.dReg r.dCl), state := if r.dCl < g.dReg then .limiting else .regulating }
  | .phaseBack => { r with out := some e.dPb }
  | .restoring =>
    let rest := r.dRest.getD e.dPb
    if min g.dReg r.dCl ≤ rest then
      { r with out := some (min (min g.dReg r.dCl) rest), dRest := none,
               state := if r.dCl < g.dReg then .limiting else .regulating }
    else { r with out := some (min (min g.dReg r.dCl) rest), dRest := some (min e.dMax (rest + e.rampRestore)) }
  | .stopped | .tripped | .waitBreaker => { r with out := none }

/-- The event of a step 4 that ended a ramp (R61, R65). -/
def noteRampEnd (old : RectState) (s : State) : State :=
  match old, s.rct.state with
  | .ramp, .regulating => logEvent .rectifier .rectRunning {} s
  | .restoring, .regulating => logEvent .rectifier .rectRestored {} s
  | .restoring, .limiting => logEvent .rectifier .rectRestored {} s
  | _, _ => s

/-- Steps 1 and 2 of an evaluation: d_reg and d_cl formed, and the bus and current values kept for readout. -/
def evaluationStart (s : State) (g : Regulated) (vBus iRect : Int) : Rect :=
  { s.rct with
    dReg := g.dReg, vRef := g.vRef, err := g.err, vBus := vBus, iRect := iRect
    dCl := if firing s.rct then limitDemand s.img.rect iRect s.rct.dCl else s.rct.dCl
    held := none, busLoss := none }

/-- Step 3 of an evaluation or a held evaluation: phase-back where the group's own current is too high (R53, R59). -/
def overcurrentCheck (iRect : Int) (s : State) : State :=
  if firing s.rct = true ∧ (s.img.rect.iRectMax : Int) ≤ iRect then phaseBack .rectOvercurrent iRect s else s

/-- An evaluation on a presented bus voltage and the rectifier current read with it (R49, R53). The held evaluations and
the bus-loss timer stop at it (R59). -/
def rectEvaluate (vBus iRect : Int) (s : State) : State :=
  let e := s.img.rect
  let g := regulate e s.rct.xi vBus iRect
  let s1 := overcurrentCheck iRect (s.setRct (evaluationStart s g vBus iRect))
  let old := s1.rct.state
  let r2 := formDemand e g s1.rct
  let s2 := noteRampEnd old (s1.setRct r2)
  let r3 := { s2.rct with xi := integrate e s2.rct.state g s2.rct.xi }
  let s3 := s2.setRct (withDemand s2.img r3.out r3)
  sendSetpoints (if s3.rct.state = old then s3 else rectNotify s3)

/-- A held evaluation, one tick of 1 ms after the one before it (R59): step 3, the demand held, α recomputed and both setpoints sent. -/
def heldEvaluate (s : State) : State :=
  let s1 := overcurrentCheck (rectCurrent s) (s.setRct { s.rct with held := s.rct.held.map (· + 1000) })
  sendSetpoints (s1.setRct (withDemand s1.img s1.rct.out s1.rct))

/-! ### Starting and stopping -/

/-- The RAMP phase begins (R61): d_ss at d_min, firing with both setpoints sent, and the sync timers started. A unit whose
latest status reports LOST enters gate fault as firing begins (R56); `before` is the record as the event found it. -/
def beginRamp (before : Rect) (s : State) : State :=
  let s1 := rectEnter .ramp s
  let r := withDemand s1.img (some s1.img.rect.dMin)
    { s1.rct with
      dSs := some s1.img.rect.dMin
      gateA := { s1.rct.gateA with sync := some s1.now }
      gateB := { s1.rct.gateB with sync := some s1.now } }
  noteGateFaults before (sendSetpoints (s1.setRct r))

/-- The RECT_STOP event of a cause. -/
def logRectStop (cause : Cause) (tag : Option Nat) (s : State) : State :=
  logEvent .rectifier .rectStop { causes := [.cause cause], tag := tag } s

/-- The rectifier enters STOPPED from a running state (R60, R68): BLOCK at once. -/
def rectStops (cause : Cause) (tag : Option Nat) (s : State) : State :=
  let s1 := rectEnter .stopped s
  let s2 := sendSetpoints (s1.setRct (rectHalt s1.rct))
  rectNotify (logRectStop cause tag s2)

/-- The close failure that FSQ reports (R60): in WAIT_BREAKER it returns the rectifier to STOPPED. -/
def rectCloseFailed (s : State) : State :=
  if s.rct.state = .waitBreaker then rectStops .closeFail none s else s

/-- Entry into STARTING (R60, R62): x_i 0, d_cl at d_max, RECT_START logged, and the RAMP phase or a close request. -/
def rectStarts (cause : Cause) (tag : Option Nat) (s : State) : State :=
  let s1 := rectEnter .waitBreaker s
  let s2 := s1.setRct { s1.rct with xi := 0, dCl := s1.img.rect.dMax }
  let s3 := logEvent .rectifier .rectStart { causes := [.cause cause], tag := tag } s2
  if s3.rct.groupPos = some .closed then beginRamp s.rct s3
  else
    let x := groupClose s3
    match x.2 with
    | .done => beginRamp s.rct x.1
    | .underWay => x.1
    | .failed => rectCloseFailed x.1

/-- Both points of the rectifier table are in use (R60, R62). -/
def rectPointsInUse (s : State) : Bool :=
  s.img.inputs[s.img.rect.busPoint].inUse && s.img.inputs[s.img.rect.currPoint].inUse

/-- FSQ's report of slot 8's position to RCT (R67). -/
def rectGroupReport (p : Position) (s : State) : State :=
  let was := firing s.rct
  let s1 := s.setRct { s.rct with groupPos := some p }
  if p = .closed then
    if s1.rct.state = .waitBreaker then beginRamp s.rct s1 else s1
  else if was then rectTrips .groupBreakerOpen s1 else s1

/-- Auto-start at the first status of slot 8 after the cold reset (R62), by the auto_start setting that the arming took
(R69) and only where that status found the rectifier in STOPPED. -/
def autoStart (found : RectState) (s : State) : State :=
  if s.rct.autoArmed then
    let s1 := s.setRct { s.rct with autoArmed := false }
    if s1.rct.autoStart = true ∧ found = .stopped ∧ s1.rct.state = .stopped ∧ rectPointsInUse s1 = true then
      rectStarts .auto none s1
    else s1
  else s

/-- FSQ's command state of slot 8 at an accepted status (R95); a FAULT report in CLOSING fails the close. -/
def groupStatus (p : Position) (s : State) : State :=
  match s.fsq.groupState, p with
  | .closing, .closed => s.setFsq { s.fsq with groupState := .idle, groupTimer := none }
  | .closing, .fault => rectCloseFailed (groupCloseFails (closeTag s 8) s)
  | .tripping, .opened => s.setFsq { s.fsq with groupState := .idle, groupTimer := none }
  | .failed, .opened => s.setFsq { s.fsq with groupState := .idle, groupTimer := none }
  | _, _ => s

/-- A position of slot 8 that differs from the last reported presented to RCT (R67). -/
def groupPresent (p : Position) (s : State) : State := if s.rct.groupPos = some p then s else rectGroupReport p s

/-- Slot 8's accepted status acted on (R95, R67, R62): by its command state, by RCT as a position, and as the first status
after the cold reset. -/
def groupAccepted (p : Position) (s : State) : State := autoStart s.rct.state (groupPresent p (groupStatus p s))

/-! ### Feeder trips (R81 to R85), which phase the rectifier back -/

/-- The wear a trip adds: floor(I² / 10⁶), or 0 when the current is absent (R81). -/
def tripWear (current : Option Int) : Nat :=
  match current with
  | some i => (floorDiv (i * i) 1000000).toNat
  | none => 0

/-- A trip recorded (R81): the record, within reclaim, the counters and the wear. -/
def recordTrip (f : Fin 8) (t : TripRecord) (s : State) : State :=
  let r := s.feeder f
  s.setFeeder f { r with
    lastTrip := some t
    withinReclaim := decide (r.state = .closing) || (decide (r.state = .closed) && r.reclaim.isSome)
    reclaim := none
    trips := satAdd top32 r.trips 1
    wear := satAdd top32 r.wear (tripWear t.current) }

/-- FEEDER_TRIP logged and its capture trigger presented (R81, R85). -/
def announceTrip (f : Fin 8) (t : TripRecord) (s : State) : State :=
  captureTrigger (if t.causes = [.intertrip] then .transferTrip else .protectionTrip)
    (logEvent (.feeder f) .feederTrip
      { causes := t.causes.map .cause, current := t.current, group := some t.group, shot := some (shotNumber s f) } s)

/-- SCO's part in a feeder's entry into TRIPPING (R128): for every cause list but INTERTRIP the section's hold starts. -/
def transferTripOut (f : Fin 8) (causes : List Cause) (s : State) : State :=
  if causes = [.intertrip] then s
  else
    match sectionOf s.img f with
    | none => s
    | some i =>
      logEvent (.pilot s.img.sections[i].port) .transferTripOut
        { causes := (causes.take 1).map .cause, tag := some s.img.sections[i].sectionId.toNat }
        (s.setSection i { s.sco.sections[i] with hold := some s.now })

/-- A demand acted on in CLOSED or CLOSING (R81): recorded, TRIPPING entered with TRIP issued and the state timer
started, and made known to REC, RCT and SCO. FEEDER_TRIP and the trigger of the trip stand before what RCT and SCO do on
learning of it. DESIGN CHOICE (notes/assumptions/15.md). -/
def tripFeeder (f : Fin 8) (t : TripRecord) (s : State) : State :=
  let s1 := recordTrip f t s
  let s2 := startTimer f (enterState f .tripping s1)
  let s3 := issueOnly (slotOf s.img f) .trip s2
  transferTripOut f t.causes (phaseBack .feederTrip (rectCurrent s3) (announceTrip f t s3))

/-- A self-trip (R85): recorded as a trip with cause SELF_TRIP, logged, and the trip outcome taken at once. A CLOSE that the
feeder leaves behind in CLOSING stays outstanding (R75). DESIGN CHOICE (notes/assumptions/45.md): its limit t_close no longer
runs. -/
def selfTrip (f : Fin 8) (s : State) : State :=
  let t : TripRecord :=
    { causes := [.selfTrip], current := pointValue s s.img.feeders[f].currentPoint, group := activeGroup s f,
      time := s.mgt.time, timeSet := s.mgt.timeSet }
  tripOutcome f t.causes (announceTrip f t (recordTrip f t s))

/-- OPEN reported in TRIPPING (R83): the feeder leaves the open-pending set and takes the trip outcome. -/
def tripOpened (f : Fin 8) (s : State) : State :=
  let causes := match (s.feeder f).lastTrip with
    | some t => t.causes
    | none => []
  noticeEmptied s (tripOutcome f causes s)

/-- Breaker failure of a feeder in TRIPPING (R84): repetition stops, BREAKER_FAIL is entered, RCT is told for its backup
trip, BREAKER_FAIL is logged, and RCT is told of the set's emptying, in the order in which R84 names them.
DESIGN CHOICE (notes/assumptions/15.md). -/
def breakerFails (f : Fin 8) (s : State) : State :=
  noticeEmptied s (logBreakerFail f (lastCauses s f) (rectTrips .breakerFailBackup (holdBreakerFail f s)))

end Sys2Proof.Machine
end

