-- ==== Sys2Proof/Machine/Breaker.lean ====
section
/-! DEFINITION. FSQ's handling of an accepted status by the state of the slot's feeder, LTU's of a contactor report, the
failure branch of a lost command, and the expiries of a feeder's state timer (R73 to R76, R78 to R90, R106, R112 to
R115). -/

namespace Sys2Proof.Machine

/-! ### The status frame (R73, R182) -/

/-- The reported values of a BREAKER_STATUS payload; none where the frame is of the wrong form. -/
def statusOf (f : RingFrame) : Option StatusReport :=
  match f.payload with
  | [p, flags, tag] =>
    if f.kind = kindBreakerStatus ∧ flags &&& 0xF8#8 = 0 then
      (positionOf p.toNat).map fun q =>
        { position := q, selfTrip := flags.getLsbD 0, contactorOn := flags.getLsbD 1, echoed := tag,
          coilHealthy := flags.getLsbD 2 }
    else none
  | _ => none

/-- The fitted slot of an address (R73). -/
def slotOfAddress (m : Image) (a : Byte) : Option (Fin 9) :=
  (List.finRange 9).find? fun k => fitted m k && decide (m.breakers[k].address = a)

/-! ### Positions by the feeder's state -/

/-- CLOSED reported in an open state: the late close of an open watch, or an uncommanded close (R80, R89). -/
def closedReported (f : Fin 8) (s : State) : State :=
  if (s.slot (slotOf s.img f)).openWatch.isSome then s else uncommandedClose f s

/-- A status in OPENING (R86). -/
def openingReport (f : Fin 8) (p : Position) (s : State) : State :=
  match p with
  | .opened => logEvent (.feeder f) .feederOpened {} (enterState f .opened s)
  | .closed | .moving | .fault => s

/-- A status in CLOSING (R80, R85). -/
def closingReport (f : Fin 8) (r : StatusReport) (s : State) : State :=
  match r.position with
  | .closed => closeDone f s
  | .fault => closeFailed f (closeTag s (slotOf s.img f)) s
  | .opened => if r.selfTrip then selfTrip f s else s
  | .moving => s

/-- A change of reported position in CLOSED (R85). -/
def closedReport (f : Fin 8) (was : Option Position) (r : StatusReport) (s : State) : State :=
  if r.position = .opened ∧ was ≠ some .opened then
    if r.selfTrip then selfTrip f s else logEvent (.feeder f) .uncommandedOpen {} (enterState f .opened s)
  else s

/-- An accepted status presented to the state machine of the slot's feeder (R78 to R90). In UNRESOLVED a report resolves
the feeder (R78) also while an open watch runs on through a warm reset, and the watch runs on after it (R80).
DESIGN CHOICE (notes/assumptions/33.md). -/
def feederReport (f : Fin 8) (was : Option Position) (r : StatusReport) (s : State) : State :=
  match (s.feeder f).state with
  | .unresolved => resolve f r.position s
  | .closing => closingReport f r s
  | .closed => closedReport f was r s
  | .opening => openingReport f r.position s
  | .tripping => if r.position = .opened then tripOpened f s else s
  | .opened | .testWait | .testing | .deadTime | .remoteWait | .lockout =>
    if r.position = .closed then closedReported f s else s
  | .disabled | .breakerFail => s

/-! ### Contactor reports (R106, R107, R112, R114) -/

/-- The contactor command of a slot is this one. -/
def contactorPending (x : Slot) (c : BrkCmd) : Bool :=
  match x.contactorCmd with
  | some y => decide (y.cmd = c)
  | none => false

/-- The ON report ends CONNECTING (R106). -/
def connected (r : TestRecord) (s : State) : State :=
  if regulates s.rct.state = false then abortTest .rectNotRegulating s
  else if defers s then abortTest .deference s
  else s.setLtu { s.ltu with circuit := .settling, record := some { r with stage := some s.now } }

/-- A contactor report of the tested slot (R106, R107, R112). In DISCONNECTING an OFF report counts once the contactor
has changed to OFF or the TEST_OFF is finished; a contactor that has not moved yet also reports OFF. -/
def testedReport (r : TestRecord) (wasOn on : Bool) (s : State) : State :=
  match s.ltu.circuit with
  | .connecting => if on && !contactorPending (s.slot r.slot.castSucc) .testOn then connected r s else s
  | .settling => if on then s else outOfService r.slot .droppedOut s
  | .measuring => if on then s else outOfService r.slot .droppedOut s
  | .disconnecting =>
    if !on && (wasOn || !contactorPending (s.slot r.slot.castSucc) .testOff) then testEnds r s else s
  | .idle | .outOfService => s

/-- A contactor report of another slot, or outside a test (R114). In OUT_OF_SERVICE a change to ON is the contactor
reported ON outside a test that R106 gives to R114, and a contactor that was ON already changes nothing (R74, R115).
DESIGN CHOICE (notes/assumptions/32.md). -/
def otherReport (k : Fin 8) (wasOn on : Bool) (s : State) : State :=
  if on then
    if (s.ltu.circuit = .outOfService ∧ wasOn = true) ∨ isStray s k = true ∨ contactorSlot s.img k.castSucc = false then s
    else strayContactor k s
  else s.setLtu { s.ltu with strays := s.ltu.strays.filter fun e => decide (e.1 ≠ k) }

/-- An accepted status's contactor position presented to LTU. -/
def contactorReport (k : Fin 8) (wasOn on : Bool) (s : State) : State :=
  match s.ltu.record with
  | some r => if r.slot = k then testedReport r wasOn on s else otherReport k wasOn on s
  | none => otherReport k wasOn on s

/-! ### The accepted status -/

/-- TRIP_COIL_FAULT where the report of a configured slot changes to no (R74). -/
def noteCoil (k : Fin 9) (was : Option StatusReport) (r : StatusReport) (s : State) : State :=
  let wasNo := match was with
    | some o => !o.coilHealthy
    | none => false
  if configured s.img k = true ∧ r.coilHealthy = false ∧ wasNo = false then logEvent (.slot k) .tripCoilFault {} s else s

/-- The slot of a number from 0 to 7, or none for slot 8. -/
def feederSlot (k : Fin 9) : Option (Fin 8) := if h : k.val < 8 then some ⟨k.val, h⟩ else none

/-- A matched status accepted and acted on (R73, R74, R95). A status that changes both the position and the test contactor
is presented as a position first and as a contactor report after it. DESIGN CHOICE (notes/assumptions/41.md). A slot that no
feeder names, as the tested slot after a switch that named another for its feeder, has no state machine and is presented to
LTU alone (R74); the slot of a DISABLED feeder drives nothing else (R73, notes/assumptions/43.md). -/
def acceptedStatus (k : Fin 9) (r : StatusReport) (s : State) : State :=
  let old := s.slot k
  let was := old.report.map (·.position)
  let wasOn := match old.report with
    | some o => o.contactorOn
    | none => false
  let s1 := noteCoil k old.report r (s.setSlot k (acceptStatus s.now r old))
  match feederSlot k with
  | none => groupAccepted r.position s1
  | some j =>
    match feederOfSlot s1.img k with
    | none => if disabledSlot s1.img k then s1 else contactorReport j wasOn r.contactorOn s1
    | some f => contactorReport j wasOn r.contactorOn (feederReport f was r s1)

/-! ### The failure branch of a lost command (R76) -/

/-- The failure branch on slot 8 (R95). -/
def groupFailure (c : BrkCmd) (tag : Nat) (s : State) : State :=
  match c with
  | .close => if s.fsq.groupState = .closing then rectCloseFailed (groupCloseFails (some tag) s) else s
  | .open => if (s.slot 8).openWatch.isSome then groupWatchFails s else s
  | .trip | .testOn | .testOff => s

/-- The failure branch of a lost CLOSE or OPEN to a feeder's slot (R80, R86). -/
def breakerFailure (k : Fin 9) (f : Fin 8) (c : BrkCmd) (tag : Nat) (s : State) : State :=
  match c with
  | .close => if (s.feeder f).state = .closing then closeFailed f (some tag) s else s
  | .open =>
    if (s.slot k).openWatch.isSome then openWatchFails k s
    else if (s.feeder f).state = .opening then enterBreakerFail f [] s
    else s
  | .trip | .testOn | .testOff => s

/-- The loss of a command to a feeder slot that no feeder in service names, as after a switch that made its feeder
DISABLED: a lost OPEN stops the open watch on it (R80), and nothing else has a failure branch.
DESIGN CHOICE (notes/assumptions/37.md). -/
def unownedFailure (k : Fin 9) (c : BrkCmd) (s : State) : State :=
  if c = .open then s.setSlot k { s.slot k with openWatch := none } else s

/-- The failure branch of a lost TEST_ON or TEST_OFF (R106, R112, R114). -/
def contactorFailure (k : Fin 8) (c : BrkCmd) (s : State) : State :=
  match c with
  | .testOn => if testedSlot s k = true ∧ s.ltu.circuit = .connecting then outOfService k .noOn s else s
  | .testOff =>
    if testedSlot s k = true ∧ s.ltu.circuit = .disconnecting then outOfService k .noOff s
    else if isStray s k = true ∧ s.ltu.circuit ≠ .outOfService then outOfService k .stray s
    else s
  | .close | .open | .trip => s

/-- The issuer of a lost command takes its failure branch (R76). -/
def failureBranch (k : Fin 9) (c : BrkCmd) (tag : Nat) (s : State) : State :=
  match feederSlot k with
  | none => groupFailure c tag s
  | some j =>
    match feederOfSlot s.img k with
    | some f => contactorFailure j c (breakerFailure k f c tag s)
    | none => contactorFailure j c (unownedFailure k c s)

/-! ### Expiries of the state timer -/

/-- t_close reached in CLOSING (R80). -/
def closeExpires (f : Fin 8) (s : State) : State := closeFailed f (closeTag s (slotOf s.img f)) s

/-- t_bf reached in OPENING (R86). -/
def openingExpires (f : Fin 8) (s : State) : State := enterBreakerFail f [] s

/-- The dead time elapsed (R87). -/
def deadTimeExpires (f : Fin 8) (s : State) : State :=
  deadTimeLook f (s.setFeeder f { s.feeder f with stateTimer := none })

/-- t_remote reached in REMOTE_WAIT (R90). -/
def remoteExpires (f : Fin 8) (s : State) : State := logEvent (.feeder f) .remoteTimeout {} (enterState f .opened s)

/-- The limit of a feeder's state timer in its state, in µs (section 4.2). -/
def stateLimit (s : State) (f : Fin 8) : Option Nat :=
  match (s.feeder f).state with
  | .closing => some (ms s.img.breakers[slotOf s.img f].tClose)
  | .tripping => some (ms s.img.breakers[slotOf s.img f].tBf)
  | .opening => some (ms s.img.breakers[slotOf s.img f].tBf)
  | .deadTime => some (ms (deadTime s.img.feeders[f] ((s.feeder f).deadIndex.getD 1)))
  | .remoteWait => some (secs s.img.feeders[f].tRemote)
  | .unresolved | .disabled | .opened | .testWait | .testing | .closed | .lockout | .breakerFail => none

/-- The expiry of a feeder's state timer, by its state. -/
def stateExpires (f : Fin 8) (s : State) : State :=
  match (s.feeder f).state with
  | .closing => closeExpires f s
  | .tripping => breakerFails f s
  | .opening => openingExpires f s
  | .deadTime => deadTimeExpires f s
  | .remoteWait => remoteExpires f s
  | .unresolved | .disabled | .opened | .testWait | .testing | .closed | .lockout | .breakerFail => s

/-- A state timer that has reached its limit expires; elapsed time is brought forward to the limit first. No effect in
another state or with the timer stopped (notes/assumptions/2.md). -/
def stateTimeout (f : Fin 8) (st : FeederState) (s : State) : State :=
  if (s.feeder f).state = st then
    match (s.feeder f).stateTimer, stateLimit s f with
    | some t0, some limit => stateExpires f (s.reach (t0 + limit))
    | _, _ => s
  else s

/-! ### RCT's part in the loss of the bus voltage point (R59) -/

/-- The held evaluations begin, and the bus-loss timer with them in a running state. -/
def startHeld (s : State) : State :=
  s.setRct { s.rct with held := some s.now, busLoss := if running s.rct.state then some s.now else none }

/-- RCT's part in the expiry of a point's freshness timer. -/
def rctPointStale (p : Fin 32) (s : State) : State := if s.img.rect.busPoint = p then startHeld s else s

end Sys2Proof.Machine
end

