-- ==== Sys2Proof/Machine/Coordinator.lean ====
section
/-! DEFINITION. SCO (chapter 6): the pilot frame received and sent, the link, the remote end states and transfer trips,
the presentation of their changes, and SCO's part in a switch. -/

namespace Sys2Proof.Machine

/-! ### The pilot frame (R122, R123, 11.2) -/

/-- One item of a pilot frame. -/
structure PilotItem where
  sectionId : Byte
  endState  : EndState
  flag      : Bool
  deriving DecidableEq, Repr

/-- The contents of a valid pilot frame. -/
structure PilotFrame where
  stationId : Nat
  seq       : BitVec 16
  items     : List PilotItem
  deriving DecidableEq, Repr

/-- An item from its two bytes: a section id from 1 to 255, bits 3 to 6 zero, and a known end state (R123). -/
def pilotItem (sid st : Byte) : Option PilotItem :=
  if sid = 0 ∨ st &&& 0x78#8 ≠ 0 then none
  else (endStateOf (st &&& 7#8).toNat).map fun e => { sectionId := sid, endState := e, flag := st.getLsbD 7 }

/-- The items of a byte sequence; none where one is not valid or the bytes are odd in number. -/
def pilotItems : List Byte → Option (List PilotItem)
  | [] => some []
  | [_] => none
  | sid :: st :: rest => do
    let x ← pilotItem sid st
    let xs ← pilotItems rest
    return x :: xs

/-- The bytes end in a good check over the bytes before it (R182). -/
def checkGood (bytes : List Byte) : Bool :=
  decide (2 ≤ bytes.length) && decide (withCheck (bytes.take (bytes.length - 2)) = bytes)

/-- No two of a list are equal. -/
def distinct {α : Type} [DecidableEq α] : List α → Bool
  | [] => true
  | x :: xs => !xs.contains x && distinct xs

/-- The contents of received bytes where they are a valid pilot frame (R123). -/
def parsePilot (bytes : List Byte) : Option PilotFrame :=
  let count := (bytes.getD 5 0).toNat
  let stationId := natOfBytes ((bytes.drop 1).take 2)
  let seq := BitVec.ofNat 16 (natOfBytes ((bytes.drop 3).take 2))
  if checkGood bytes = true ∧ count ≤ 4 ∧ bytes.length = 8 + 2 * count ∧ (bytes.getD 0 0).toNat = 5 + 2 * count ∧
      1 ≤ stationId then
    match pilotItems ((bytes.drop 6).take (2 * count)) with
    | some items =>
      if distinct (items.map (·.sectionId)) then some { stationId := stationId, seq := seq, items := items } else none
    | none => none
  else none

/-- The section entries in use on a port, in the order of the table. -/
def sectionsOn (m : Image) (p : Port) : List (Fin 8) :=
  (List.finRange 8).filter fun i => m.sections[i].inUse && decide (m.sections[i].port = p)

/-- The two bytes of a section's outgoing item (R122): the flag is set while the hold timer runs. -/
def itemBytes (s : State) (i : Fin 8) : List Byte :=
  let st := endStateCode (localEnd (s.feeder s.img.sections[i].feeder))
  [s.img.sections[i].sectionId, BitVec.ofNat 8 (if s.sco.sections[i].hold.isSome then st + 128 else st)]

/-- The pilot frame that a port sends (R122, 11.2). -/
def pilotBytes (s : State) (p : Port) : List Byte :=
  let items := sectionsOn s.img p
  withCheck ([BitVec.ofNat 8 (5 + 2 * items.length)] ++ beBytes 2 s.img.station.stationId ++
    beBytes 2 (s.link p).outSeq.toNat ++ [BitVec.ofNat 8 items.length] ++ items.flatMap (itemBytes s))

/-- A pilot frame put on a port, one period after the one before it (R122). -/
def sendPilot (p : Port) (s : State) : State :=
  s.setLink p { s.link p with
    sent := some (pilotBytes s p), outSeq := (s.link p).outSeq + 1, period := (s.link p).period + 1000 }

/-! ### The link (R124, R125) -/

/-- Every section of a port loses its remote end state and its flag received. -/
def clearSections (p : Port) (s : State) : State :=
  forEach 8 (fun i x =>
    if x.img.sections[i].inUse = true ∧ x.img.sections[i].port = p then
      x.setSection i { x.sco.sections[i] with remote := .none, flag := false }
    else x) s

/-- An UP link goes DOWN for a reason (R125, R127). -/
def linkDown (p : Port) (reason : Cause) (s : State) : State :=
  let s1 := s.setLink p { s.link p with up := false, run := 0, unknown := [] }
  logEvent (.pilot p) .pilotDown { causes := [.cause reason] } (clearSections p s1)

/-- The remote end state and the flag of one section from the frame's items (R126): absent ones become NONE, which is
logged while the link is UP. -/
def applySection (items : List PilotItem) (p : Port) (i : Fin 8) (s : State) : State :=
  let sid := s.img.sections[i].sectionId
  match items.find? fun x => decide (x.sectionId = sid) with
  | some x => s.setSection i { s.sco.sections[i] with remote := x.endState }
  | none =>
    let s1 := s.setSection i { s.sco.sections[i] with remote := .none, flag := false }
    if s.sco.sections[i].remote = .none then s1
    else logEvent (.pilot p) .sectionMissing { tag := some sid.toNat } s1

/-- The code of a flag carried in an event. -/
def flagCause (b : Bool) : Cause := if b then .flagSet else .flagClear

/-- UNKNOWN_SECTION logged for an item (R127). -/
def logUnknown (p : Port) (x : PilotItem) (s : State) : State :=
  logEvent (.pilot p) .unknownSection
    { causes := [.cause (flagCause x.flag)], tag := some x.sectionId.toNat } s

/-- An item whose section id matches no section of the port (R127). -/
def applyUnknown (p : Port) (x : PilotItem) (s : State) : State :=
  let l := s.link p
  match l.unknown.find? fun e => decide (e.1 = x.sectionId) with
  | some e =>
    let s1 := s.setLink p { l with
      unknown := l.unknown.map fun e => if e.1 = x.sectionId then (e.1, x.flag) else e }
    if e.2 = false ∧ x.flag = true then logUnknown p x s1 else s1
  | none =>
    if l.unknown.length < 4 then
      logUnknown p x (s.setLink p { l with unknown := l.unknown ++ [(x.sectionId, x.flag)] })
    else logUnknown p x s

/-- The flag received of one section (R129): a set flag presents an intertrip demand, and a flag set from clear logs
TRANSFER_TRIP_IN. -/
def applyFlag (items : List PilotItem) (p : Port) (i : Fin 8) (s : State) : State :=
  let e := s.img.sections[i]
  match items.find? fun x => decide (x.sectionId = e.sectionId) with
  | some x =>
    let s1 := s.setSection i { s.sco.sections[i] with flag := x.flag }
    if x.flag then
      let s2 := s1.setFsq { s1.fsq with intertrips := s1.fsq.intertrips ++ [e.feeder] }
      if s.sco.sections[i].flag then s2
      else logEvent (.pilot p) .transferTripIn
        { causes := [.feederState (s2.feeder e.feeder).state], tag := some e.sectionId.toNat } s2
    else s1
  | none => s

/-- The items of a taken frame of an UP link applied, under R126, R127 and R129 in turn. -/
def applyItems (p : Port) (items : List PilotItem) (s : State) : State :=
  let secs := sectionsOn s.img p
  let known := secs.map fun i => s.img.sections[i].sectionId
  let s1 := secs.foldl (fun x i => applySection items p i x) s
  let s2 := (items.filter fun x => !known.contains x.sectionId).foldl (fun y x => applyUnknown p x y) s1
  secs.foldl (fun x i => applyFlag items p i x) s2

/-- The run count after a frame taken while DOWN (R124). -/
def runAfter (l : Link) (fr : PilotFrame) : Nat :=
  if l.run = 0 ∨ l.remoteId ≠ some fr.stationId ∨ l.lastSeq.map (· + 1) ≠ some fr.seq then 1 else l.run + 1

/-- A frame taken while the link is DOWN (R124): the third in sequence brings it UP and is then applied. -/
def takeDown (p : Port) (fr : PilotFrame) (s : State) : State :=
  let l := s.link p
  let n := runAfter l fr
  let l1 := { l with
    remoteId := some fr.stationId, lastSeq := some fr.seq, silence := some s.now, conflict := false, run := n }
  if 3 ≤ n then
    let s1 := s.setLink p { l1 with up := true, run := 0 }
    applyItems p fr.items (logEvent (.pilot p) .pilotUp { tag := some fr.stationId } s1)
  else s.setLink p l1

/-- A frame taken while the link is UP (R125). -/
def takeUp (p : Port) (fr : PilotFrame) (s : State) : State :=
  let l := s.link p
  if l.remoteId ≠ some fr.stationId then takeDown p fr (linkDown p .idChange s)
  else if l.lastSeq = some fr.seq then s
  else applyItems p fr.items (s.setLink p { l with lastSeq := some fr.seq, silence := some s.now })

/-- The conflict mark set, with ID_CONFLICT where it was clear, and an UP link taken DOWN (R123, R132). -/
def idConflicts (p : Port) (sid : Nat) (s : State) : State :=
  let l := s.link p
  let s1 := s.setLink p { l with conflict := true, run := 0 }
  let s2 := if l.conflict then s1 else logEvent (.pilot p) .idConflict { tag := some sid } s1
  if l.up then linkDown p .idConflict s2 else s2

/-- A pilot frame received on a configured port (R123). -/
def receivePilot (p : Port) (bytes : List Byte) (s : State) : State :=
  match parsePilot bytes with
  | none => s.setLink p { s.link p with discarded := satAdd top16 (s.link p).discarded 1 }
  | some fr =>
    if fr.stationId = s.img.station.stationId then idConflicts p fr.stationId s
    else if (s.link p).up then takeUp p fr s
    else takeDown p fr s

/-- The expiry of the silence timer (R123, R124, R125). -/
def silenceExpires (p : Port) (s : State) : State :=
  let l := s.link p
  let s1 := s.setLink p { l with silence := none, conflict := false, run := 0 }
  if l.up then linkDown p .silence s1 else s1

/-! ### Changes presented (R126) -/

/-- FSQ's part in a change of remote end state or link state, for the feeders whose section changed (R90). -/
def remoteLooks (before : State) (s : State) : State :=
  forEach 8 (fun f x =>
    if remoteEnd before f = remoteEnd x f ∧ sectionLinkUp before f = sectionLinkUp x f then x else remoteWaitLook f x) s

/-- Each change of remote end state and link state presented to FPR, FSQ and LTU (R126). -/
def presentLinks (before s : State) : State := deferenceCheck (remoteLooks before (groupsChanged before s))

/-! ### The switch (R132) -/

/-- The record of a new section entry: that of the equal in-use entry of the old image, or a new one. -/
def switchedSection (old : Image) (recs : Bank SectionRec 8) (e : SectionEntry) : SectionRec :=
  if e.inUse then
    match (List.finRange 8).find? fun j =>
        old.sections[j].inUse && decide (old.sections[j].feeder = e.feeder) && decide (old.sections[j].port = e.port) &&
          decide (old.sections[j].sectionId = e.sectionId) with
    | some j => recs[j]
    | none => coldSection
  else coldSection

/-- A port's link at a switch: started anew where the port stops or begins being configured, its list emptied
otherwise. -/
def switchLink (old : Image) (p : Port) (s : State) : State :=
  if portConfigured old p = portConfigured s.img p then s.setLink p { s.link p with unknown := [] }
  else s.setLink p (coldLink s.now)

/-- A new local station id equal to the remote id of an UP link takes it DOWN. -/
def switchConflict (old : Image) (p : Port) (s : State) : State :=
  if old.station.stationId ≠ s.img.station.stationId ∧ (s.link p).up = true ∧
      (s.link p).remoteId = some s.img.station.stationId then
    idConflicts p s.img.station.stationId s
  else s

/-- SCO's part in a switch, up to the presentation of its changes. -/
def switchSco (old : Image) (s : State) : State :=
  let s1 := s.setSco { s.sco with
    sections := tabulate fun i => switchedSection old s.sco.sections s.img.sections[i] }
  switchConflict old .two (switchConflict old .one (switchLink old .two (switchLink old .one s1)))

end Sys2Proof.Machine
end

