-- ==== Sys2Proof/Machine/Points.lean ====
section
/-! DEFINITION. MSU's handling of a SAMPLE frame: the form check, scaling, the classes of an update, the presentations,
and the switch and restart of the points (R2 to R18). -/

namespace Sys2Proof.Machine

/-! ### The frame (R2, R3, 11.2) -/

/-- The sequence number of a sample payload. -/
def sampleSequence (p : List Byte) : BitVec 16 := BitVec.ofNat 16 (natOfBytes (p.take 2))

/-- The channel count of a sample payload. -/
def sampleCount (p : List Byte) : Nat := (p.getD 2 0).toNat

/-- A SAMPLE frame is well formed: 1 to 8 channels, and the payload length that the count gives (R2). -/
def sampleWellFormed (f : RingFrame) : Bool :=
  decide (f.kind = kindSample) && decide (1 ≤ sampleCount f.payload) && decide (sampleCount f.payload ≤ 8) &&
  decide (f.payload.length = 4 + 2 * sampleCount f.payload)

/-- The raw value of a channel where it is present (R3): carried by the frame, with its valid flag set. -/
def rawValue (p : List Byte) (channel : Nat) : Option Int :=
  if channel < sampleCount p ∧ (p.getD 3 0).getLsbD channel = true then
    some (signed16 (p.getD (4 + 2 * channel) 0) (p.getD (5 + 2 * channel) 0))
  else none

/-! ### Scaling (R5, R6) -/

/-- The value after step 4 of R5. -/
def scaledValue (e : InputEntry) (raw : Int) : Int := floorDiv (raw * e.gain + 2048) 4096 + e.offset

/-- The engineering value (R5). -/
def engineering (e : InputEntry) (raw : Int) : Int := clamp (-32768) 32767 (scaledValue e raw)

/-- The update saturates: step 5 changes the value (R6). -/
def saturates (e : InputEntry) (raw : Int) : Bool := decide (engineering e raw ≠ scaledValue e raw)

/-! ### Classes of an update (R9 to R14) -/

/-- How an update is taken. -/
inductive UpdateClass where
  | duplicate
  | forward (gap : Nat)
  | first
  | resync (gap : Option Nat)
  deriving DecidableEq, Repr

/-- The gap between two sequence numbers, modulo 65536 (R9). -/
def gapOf (last seq : BitVec 16) : Nat := (seq - last).toNat

/-- The class of an update: of a STALE point a resync whatever its gap (R14), of a point without value the first value
(R11), and by the gap otherwise (R9). -/
def classify (pt : Point) (seq : BitVec 16) : UpdateClass :=
  match pt.state, pt.seq with
  | .stale, last => .resync (last.map fun l => gapOf l seq)
  | _, none => .first
  | _, some l => if gapOf l seq = 0 then .duplicate else if gapOf l seq ≤ 5 then .forward (gapOf l seq) else .resync (some (gapOf l seq))

/-- The point's marks and freshness timer as any taken update leaves them (R6, R13). -/
def stampPoint (seq : BitVec 16) (sat : Bool) (now : Nat) (pt : Point) : Point :=
  { pt with seq := some seq, saturating := sat, overflow := pt.overflow || sat, freshness := some now }

/-- A normal or bridged update (R9, R12): copies of the last value for the missing positions, then the new value. -/
def forwardPoint (g : Nat) (v : Int) (pt : Point) : Point :=
  let copies := List.replicate (g - 1) (pt.history.headD v)
  let warm := min 16 (pt.warm + g)
  let enters := decide (pt.state = .warming) && decide (warm = 16)
  { pt with
    history := ((v :: copies) ++ pt.history).take 16
    warm := warm
    state := if enters then .fresh else pt.state
    freshSince := pt.freshSince || enters }

/-- A resync or a first value (R11). -/
def refillPoint (v : Int) (pt : Point) : Point :=
  { pt with history := List.replicate 16 v, warm := 0, state := .warming }

/-- The point record after an update. -/
def updatedPoint (c : UpdateClass) (seq : BitVec 16) (v : Int) (sat : Bool) (now : Nat) (pt : Point) : Point :=
  match c with
  | .duplicate => pt
  | .forward g => stampPoint seq sat now (forwardPoint g v pt)
  | .first => stampPoint seq sat now (refillPoint v pt)
  | .resync _ => stampPoint seq sat now (refillPoint v pt)

/-- A value in the detail field of its kind: a current or a voltage (R6). -/
def kindDetail (k : PointKind) (p : Fin 32) (v : Option Int) : Detail :=
  match k with
  | .feederCurrent | .rectCurrent => { current := v, point := some p }
  | .lineVoltage | .busVoltage => { voltage := v, point := some p }

/-- POINT_OVERFLOW where an update set the flag from clear (R6). -/
def noteOverflow (p : Fin 32) (before : Point) (v : Int) (s : State) : State :=
  if before.overflow = false ∧ (s.point p).overflow = true then
    logEvent .part .pointOverflow (kindDetail s.img.inputs[p].kind p (some v)) s
  else s

/-- POINT_RESYNC of a resync, with the previous state and the gap (R11, R14). -/
def noteResync (p : Fin 32) (before : Point) (c : UpdateClass) (s : State) : State :=
  match c with
  | .resync g =>
    logEvent .part .pointResync { causes := [.pointState before.state], point := some p, number := g } s
  | .duplicate | .forward _ | .first => s

/-- A point that is FRESH stands in the start-up set no longer (R18). -/
def leaveStartSet (p : Fin 32) (s : State) : State :=
  if (s.point p).state = .fresh then
    s.setMsu { s.msu with startSet := s.msu.startSet.filter fun q => decide (q ≠ p) }
  else s

/-- One point updated from its channel's raw value. -/
def updatePoint (p : Fin 32) (seq : BitVec 16) (raw : Int) (s : State) : State :=
  let e := s.img.inputs[p]
  let before := s.point p
  let c := classify before seq
  let s1 := s.setPoint p (updatedPoint c seq (engineering e raw) (saturates e raw) s.now before)
  leaveStartSet p (noteResync p before c (noteOverflow p before (engineering e raw) s1))

/-! ### Presentation (R15) -/

/-- The position advance and the resync mark of a class; absent for a duplicate. -/
def advanceOf : UpdateClass → Option (Nat × Bool)
  | .duplicate => none
  | .forward g => some (g, false)
  | .first => some (1, true)
  | .resync _ => some (1, true)

/-- A test is measuring on a feeder whose line voltage point this is. -/
def measuredLine (s : State) (p : Fin 32) : Bool :=
  match s.ltu.circuit, s.ltu.record with
  | .measuring, some r =>
    match r.feeder with
    | some f => decide (s.img.feeders[f].linePoint = p)
    | none => false
  | _, _ => false

/-- The blocks that a point's new value is presented to (R15). -/
def targetsOf (s : State) (p : Fin 32) : List Target :=
  (match s.img.inputs[p].kind with
    | .feederCurrent =>
      ((List.finRange 8).filter fun f => decide (s.img.feeders[f].currentPoint = p)).map Target.current
    | .lineVoltage =>
      ((List.finRange 8).filter fun f => decide (s.img.feeders[f].linePoint = p)).map Target.line ++
      (if measuredLine s p then [Target.lineTest] else [])
    | .busVoltage =>
      (if s.img.rect.busPoint = p then
        Target.rectifier :: (if s.ltu.circuit = .measuring then [Target.lineTest] else []) else [])
    | .rectCurrent => []) ++
  (if (captureChannels s.img).contains p then [Target.capture] else [])

/-- The presentations of one point of a frame, whose update had a class, in the state that the whole frame has left
(R4, R15). -/
def presentationsOf (s : State) (p : Fin 32) (c : UpdateClass) : List Presentation :=
  match advanceOf c with
  | none => []
  | some (g, mark) =>
    (targetsOf s p).map fun t =>
      { target := t, point := p, value := (pointValue s p).getD 0, state := (s.point p).state, advance := g,
        resync := mark, saturating := (s.point p).saturating, history := (s.point p).history,
        frame := (pointsOfHead s.img s.img.inputs[p].head).map fun q => (q, reading s q) }

/-- The points that a frame updates, with their raw values (R2, R3). R2 takes them in turn and names no order: here they
stand in rising point number, and so do their events and presentations. DESIGN CHOICE (notes/assumptions/10.md). -/
def presentPoints (s : State) (f : RingFrame) : List (Fin 32 × Int) :=
  (pointsOfHead s.img f.src).filterMap fun p =>
    (rawValue f.payload s.img.inputs[p].channel).map fun v => (p, v)

/-- A well-formed frame taken for measurement (R2 to R4): every point updated, then every value presented, both in rising
point number. DESIGN CHOICE (notes/assumptions/10.md). -/
def takeSample (f : RingFrame) (s : State) : State :=
  let seq := sampleSequence f.payload
  let pts := presentPoints s f
  let s1 := pts.foldl (fun x e => updatePoint e.1 seq e.2 x) s
  s1.setMsu { s1.msu with
    presentations := s1.msu.presentations ++
      pts.flatMap fun e => presentationsOf s1 e.1 (classify (s.point e.1) seq) }

/-! ### Freshness, switch and restart (R13, R16, R17) -/

/-- The presentations of a point dropped: a STALE point is presented to no block until it is updated (R14). -/
def withdrawPresentations (p : Fin 32) (s : State) : State :=
  s.setMsu { s.msu with presentations := s.msu.presentations.filter fun e => decide (e.point ≠ p) }

/-- The expiry of a point's freshness timer (R13): STALE with everything else kept, a value of it not yet taken withdrawn
(R14, R38), and POINT_STALE logged. -/
def pointStale (p : Fin 32) (s : State) : State :=
  let s1 := withdrawPresentations p (s.setPoint p { s.point p with state := .stale, freshness := none })
  logEvent .part .pointStale (kindDetail s1.img.inputs[p].kind p (pointValue s1 p)) s1

/-- A point whose entry changed at a switch (R16). The fresh-since-start flag of a point taken out of use, on which R16 is
silent, is cleared as that of a remapped point is. DESIGN CHOICE (notes/assumptions/30.md). -/
def remappedPoint (e : InputEntry) (now : Nat) (pt : Point) : Point := restartedPoint e now pt.overflow false

/-- The point of an entry after a switch: kept where the entry is unchanged (R16). -/
def switchedPoint (old new : InputEntry) (now : Nat) (pt : Point) : Point :=
  if old = new then pt else remappedPoint new now pt

/-- An entry of the Input Map differs between two images. -/
def remapped (old new : Image) (p : Fin 32) : Bool := decide (old.inputs[p] ≠ new.inputs[p])

/-- A presentation of an unchanged point as a switch leaves it: without what it carries of the points of its frame that the
switch remaps, which its taker then reads as they stand. DESIGN CHOICE (notes/assumptions/10.md). -/
def keptPresentation (old new : Image) (e : Presentation) : Presentation :=
  { e with frame := e.frame.filter fun x => !remapped old new x.1 }

/-- MSU's part in a switch (R16, R18): changed points start again, leave the start-up set, and a value of theirs not yet
taken is dropped. -/
def switchMsu (old : Image) (s : State) : State :=
  s.setMsu { s.msu with
    points := tabulate fun p => switchedPoint old.inputs[p] s.img.inputs[p] s.now (s.point p)
    startSet := s.msu.startSet.filter fun p => !remapped old s.img p
    presentations :=
      (s.msu.presentations.filter fun e => !remapped old s.img e.point).map (keptPresentation old s.img) }

/-- MSU's warm reset (R17): every point starts again, and frames and values in hand are dropped. -/
def restartMsu (s : State) : State :=
  s.setMsu { s.msu with
    points := tabulate fun p => restartedPoint s.img.inputs[p] s.now (s.point p).overflow (s.point p).freshSince
    frames := []
    presentations := [] }

/-- The points that have not been FRESH since the cold reset or their latest remap (R18). -/
def neverFresh (s : State) : List (Fin 32) :=
  (List.finRange 32).filter fun p => s.img.inputs[p].inUse && !(s.point p).freshSince

/-- MSU's part in CLEAR_ALARMS naming MP_OVERFLOW (R7): with no in-use point saturating, every overflow flag is
cleared. -/
def clearOverflows (s : State) : State :=
  if (List.finRange 32).any fun p => s.img.inputs[p].inUse && (s.point p).saturating then s
  else s.setMsu { s.msu with points := mapBank (fun pt => { pt with overflow := false }) s.msu.points }

end Sys2Proof.Machine
end

