-- ==== Sys2Proof/Machine/Switch.lean ====
section
/-! DEFINITION. The switch of the in-use image (R155), block by block: FPR R44, RCT R69, FSQ R97, LTU R117, REC R174, with
MSU's part (R16) from Points and SCO's (R132) from Coordinator. -/

namespace Sys2Proof.Machine

/-! ### FPR (R44) -/

/-- A protection record that leaves service (R21): timers stopped, conditions clear, rise QUIET and block empty. -/
def outOfServiceProtection (p : Protection) : Protection :=
  { warmingStep p with uvTimer := none, uvCondition := false, lossTimer := none, thermalAlarm := false }

/-- A point that a feeder uses is another, or its Input Map entry differs. -/
def pointMoved (old new : Image) (was is : Fin 32) : Bool := decide (was ≠ is) || remapped old new is

/-- The record of a feeder in service after the change of its points (R44). The loss timer stays stopped also where the new
current point is STALE already and the feeder is CLOSED. DESIGN CHOICE (notes/assumptions/46.md). -/
def movedPoints (curMoved lineMoved : Bool) (p : Protection) : Protection :=
  let p1 := if curMoved then { warmingStep p with lossTimer := none } else p
  if lineMoved then { p1 with uvTimer := none, uvCondition := false } else p1

/-- The thermal alarm and the restart inhibit against the new settings. -/
def levelsUpdated (e : FeederEntry) (p : Protection) : Protection :=
  { p with thermalAlarm := thermalAlarmLevel e p.theta, inhibit := inhibitLevel e p.theta }

/-- One feeder's protection record at a switch. -/
def switchedProtection (old new : Image) (f : Fin 8) (p : Protection) : Protection :=
  let oe := old.feeders[f]
  let ne := new.feeders[f]
  if ne.inService then
    if oe.inService then
      levelsUpdated ne (movedPoints (pointMoved old new oe.currentPoint ne.currentPoint)
        (pointMoved old new oe.linePoint ne.linePoint) p)
    else levelsUpdated ne { outOfServiceProtection p with demand := none }
  else outOfServiceProtection p

/-- FPR's part in a switch (R44): the current of a THERMAL_ALARM here, where there is no I(k), is the last value of the
feeder's current point (DESIGN CHOICE, notes/assumptions/15.md); each record, the THERMAL_ALARM of an alarm that the new
settings set, and the undervoltage functions that the new settings disarm. One that stays armed keeps its timer and its
condition. DESIGN CHOICE (notes/assumptions/27.md). A running undervoltage or loss timer is not compared with its new
limit. DESIGN CHOICE (notes/assumptions/46.md). -/
def switchFpr (old : Image) (s : State) : State :=
  uvCheckAll (forEach 8 (fun f x =>
    let was := (x.prot f).thermalAlarm
    noteThermal f was (pointValue x x.img.feeders[f].currentPoint)
      (x.setProt f (switchedProtection old x.img f (x.prot f)))) s)

/-! ### RCT (R69) -/

/-- The demands clamped into the bounds of the new settings. -/
def clampedDemands (e : RectEntry) (r : Rect) : Rect :=
  { r with
    dCl := clamp e.dMin e.dMax r.dCl
    dSs := r.dSs.map (clamp e.dMin e.dMax)
    dRest := r.dRest.map (clamp e.dPb e.dMax)
    out := if r.state = .phaseBack then r.out.map fun _ => (e.dPb : Int) else r.out.map (clamp e.dPb e.dMax) }

/-- A gate unit whose address changes: BLOCK to the old address, and the new unit's timers from 0. The new unit has no
sync report, though R69 names only the timers. DESIGN CHOICE (notes/assumptions/34.md). -/
def switchGate (old : Image) (u : GateUnit) (s : State) : State :=
  if gateAddress old u = gateAddress s.img u then s
  else
    let s1 := sendSetpoint (gateAddress old u) (0 :: beBytes 2 0) s
    s1.setRct (s1.rct.setGate u
      { silence := some s1.now, silent := false, sync := if firing s1.rct then some s1.now else none, report := none })

/-- The bus voltage point is another or remapped: the held evaluations and the bus-loss timer stop, and start again
where the new point has no presented value (R59). -/
def switchBus (old : Image) (s : State) : State :=
  if pointMoved old s.img old.rect.busPoint s.img.rect.busPoint then
    if busLost s then startHeld s else s.setRct { s.rct with held := none, busLoss := none }
  else s

/-- t_pb_max compared with its new limit. -/
def switchPhaseBack (s : State) : State :=
  if s.rct.state = .phaseBack ∧ reached s.now s.rct.pbTimer (ms s.img.rect.tPbMax) = true then phaseBackExpires s else s

/-- RCT's part in a switch. -/
def switchRct (old : Image) (s : State) : State :=
  let r := clampedDemands s.img.rect s.rct
  let s1 := s.setRct (withDemand s.img r.out r)
  let s2 := sendSetpoints (switchGate old .b (switchGate old .a s1))
  switchPhaseBack (switchBus old s2)

/-! ### FSQ (R97) -/

/-- A slot whose address changes: its reported values absent, its freshness timer restarted, its commands abandoned. -/
def switchedSlot (now : Nat) (was is : Byte) (x : Slot) : Slot :=
  if was = is then x
  else { x with report := none, freshness := some now, unknown := false, breakerCmd := none, contactorCmd := none }

/-- A feeder put in service resolves from its slot's reported position where that is known, and is UNRESOLVED
otherwise. -/
def putInService (f : Fin 8) (s : State) : State :=
  let s1 := enterState f .unresolved s
  let k := slotOf s1.img f
  match position s1 k with
  | some p => if (s1.slot k).unknown then s1 else resolve f p s1
  | none => s1

/-- A running state timer or reclaim timer that has reached its new limit expires. -/
def switchTimers (f : Fin 8) (s : State) : State :=
  let s1 := match stateLimit s f with
    | some limit => if reached s.now (s.feeder f).stateTimer limit then stateExpires f s else s
    | none => s
  if reached s1.now (s1.feeder f).reclaim (secs s1.img.feeders[f].tReclaim) then reclaimExpires f s1 else s1

/-- One feeder at a switch. -/
def switchFeeder (old : Image) (f : Fin 8) (s : State) : State :=
  let s1 := s.setFeeder f { s.feeder f with shots := min (s.feeder f).shots s.img.feeders[f].shots }
  if s1.img.feeders[f].inService then
    if old.feeders[f].inService then switchTimers f s1 else putInService f s1
  else if old.feeders[f].inService then
    let s2 := enterState f .disabled s1
    s2.setFeeder f { s2.feeder f with reclaim := none }
  else s1

/-- FSQ's part in a switch (R97). The open watches and slot 8's timers, which R97 does not name, run on without a look at
their new limits, an open watch also where its OPEN is abandoned. A feeder that names another slot is read on it at once,
and what is outstanding to its old slot stays there. DESIGN CHOICE (notes/assumptions/37.md). -/
def switchFsq (old : Image) (s : State) : State :=
  forEach 8 (switchFeeder old)
    (s.setFsq { s.fsq with
      slots := tabulate fun k => switchedSlot s.now old.breakers[k].address s.img.breakers[k].address (s.slot k) })

/-! ### LTU (R117) -/

/-- The switch changes what the test in progress rests on. -/
def testDisturbed (old new : Image) (r : TestRecord) : Bool :=
  (match r.feeder with
    | some f => pointMoved old new old.feeders[f].linePoint new.feeders[f].linePoint
    | none => false) ||
  pointMoved old new old.rect.busPoint new.rect.busPoint ||
  decide (old.breakers[r.slot.castSucc] ≠ new.breakers[r.slot.castSucc]) ||
  decide (old.station.stationId ≠ new.station.stationId)

/-- SETTLING compared with the new t_settle (R107). -/
def switchSettle (s : State) : State :=
  match s.ltu.circuit, s.ltu.record with
  | .settling, some r => if reached s.now r.stage (ms s.img.test.tSettle) then enterMeasuring r s else s
  | _, _ => s

/-- LTU's part in a switch, but for the arbiter's look: a slot that is no longer a configured slot with a test contactor
holds no stray contactor. -/
def switchLtu (old : Image) (s : State) : State :=
  let s1 := s.setLtu { s.ltu with strays := s.ltu.strays.filter fun e => contactorSlot s.img e.1.castSucc }
  match s1.ltu.record with
  | some r => if testDisturbed old s1.img r then abortTest .settings s1 else switchSettle s1
  | none => s1

/-! ### REC (R174) -/

/-- REC's part in a switch. -/
def switchRec (old : Image) (s : State) : State :=
  match activeSegment s.recs with
  | none => s
  | some i =>
    if captureChannels old ≠ captureChannels s.img then
      if s.recs.segments[i].state = .post then freezeSegment i s
      else s.setRecs { s.recs with segments := s.recs.segments.set i { s.recs.segments[i] with rows := [] } }
    else freezeIfDone i s

/-! ### The switch (R155) -/

/-- Every feeder in DEAD_TIME looked at again (R87). -/
def deadTimeLooks (s : State) : State := forEach 8 deadTimeLook s

/-- The in-use image replaced whole, and each block's own part taken in turn. SCO takes its part after MSU, so that the
blocks after it find the sections in their new places, and REC before the blocks whose part may present a capture
trigger, so that a header's channels are those of its rows (notes/assumptions/12.md). -/
def switchImage (new : Image) (s : State) : State :=
  let old := s.img
  let s1 := switchRec old (switchSco old (switchMsu old (s.setSst { s.sst with inUse := new })))
  let s2 := switchLtu old (switchFsq old (switchRct old (switchFpr old s1)))
  arbitrate (deadTimeLooks (presentLinks s s2))

end Sys2Proof.Machine
end

