-- ==== Sys2Proof/Machine/Resets.lean ====
section
/-! DEFINITION. The cold reset (R17, R45, R70, R98, R118, R133, R145, R146, R159, R168, R174) and the warm reset (R17, R46,
R71, R98, R118, R133, R146, R161, R168, R174, R180). -/

namespace Sys2Proof.Machine

/-! ### The cold reset -/

/-- A cold reset finds the check of an image marked valid bad (R159): the store does not hold what was written. -/
def foundBad (imageCheck : Bool) (x : Sst) : Bool := x.storedValid && !imageCheck

/-- The settings store after a cold reset, before its events and its flags write (R159). The entries that READ_SETTINGS of
STORED gives of an image whose check is found bad are not stated, and are the free value of a number.
DESIGN CHOICE (notes/assumptions/4.md). -/
def coldSst (own : Byte) (key : KeyPos) (imageCheck flagsCheck : Bool) (freeCount : Nat) (x : Sst) : Sst :=
  let ok := loadable own x.storedValid imageCheck x.stored
  let m := if ok then x.stored else defaultImage own
  { inUse := m, staging := none, stored := if foundBad imageCheck x then Config.unverifiedImage freeCount else x.stored,
    storedValid := ok, reference := m, refDefault := !ok,
    settings := .base (if ok then .stored else .default), key := key, flagsLockout := x.flagsLockout,
    flagsPermit := x.flagsPermit, flagsValid := x.flagsValid && flagsCheck, arbiter := .idle, writeStart := none,
    imageWaiting := false, flagsPending := false, flagsRetry := false, lastCommit := none }

/-- The lockout flags that FSQ starts from (R159). -/
def coldLockouts (x : Sst) : Bank Bool 8 :=
  if x.flagsValid then x.flagsLockout else tabulate fun f => x.inUse.feeders[f].inService

/-- The work permits that FSQ starts from (R159). -/
def coldPermits (x : Sst) : Bank Bool 8 := if x.flagsValid then x.flagsPermit else tabulate fun _ => true

/-- Every block at its cold reset values under the image chosen. -/
def coldState (straps : Byte) (x : Sst) (pending : List Instr) (freeCount : Nat) : State :=
  { pending := pending
    now := 0
    rp := coldRp straps
    msu := coldMsu x.inUse
    fpr := tabulate fun f => coldProtection x.inUse.feeders[f]
    rct := coldRect x.inUse
    fsq := coldFsq x.inUse (coldLockouts x) (coldPermits x)
    ltu := coldLtu
    sco := coldSco
    sst := x
    recs := coldRecords
    mgt := coldMgt
    freeCount := freeCount }

/-- STRAP_ADDRESS_INVALID, the first event after the reset (R145). -/
def noteStraps (straps : Byte) (s : State) : State :=
  if straps = 0 ∨ straps = 255 then logEvent .ring .strapAddressInvalid { tag := some straps.toNat } s else s

/-- STORE_INVALID where no image was loadable (R159). -/
def noteStore (s : State) : State := if s.sst.storedValid then s else logEvent .settings .storeInvalid {} s

/-- FLAGS_INVALID and the flags write where the record was not valid (R159). -/
def noteFlags (s : State) : State :=
  if s.sst.flagsValid then s else requestFlagsWrite (logEvent .settings .flagsInvalid {} s)

/-- TEST_OFF once to each configured slot with a test contactor (R98), in rising slot number.
DESIGN CHOICE (notes/assumptions/40.md). -/
def coldContactors (s : State) : State :=
  forEach 8 (fun k x => if contactorSlot x.img k.castSucc then issueOnly k.castSucc .testOff x else x) s

/-- The conditions found active after a cold reset set their latches (R168). -/
def latchAll (s : State) : State := s.setRecs { s.recs with latched := s.recs.latched ||| activeMask s }

/-- The cold reset of the part. -/
def coldStart (straps : Byte) (key : KeyPos) (imageCheck flagsCheck : Bool) (s : State) : State :=
  let x := coldSst (ownAddress straps) key imageCheck flagsCheck s.freeCount s.sst
  let n := if foundBad imageCheck s.sst then s.freeCount + 1 else s.freeCount
  latchAll (coldContactors (noteFlags (noteStore (noteStraps straps (coldState straps x s.pending n)))))

/-! ### The warm reset -/

/-- A protection record after a warm reset (R46). -/
def warmProtection (p : Protection) : Protection :=
  { warmingStep p with uvTimer := none, uvCondition := false, lossTimer := none, demand := none }

/-- A feeder record after a warm reset (R98): a feeder in OPEN, CLOSED or LOCKOUT becomes UNRESOLVED, marked where it was
CLOSED. -/
def warmFeeder (r : Feeder) : Feeder :=
  match r.state with
  | .opened | .closed | .lockout => { r with state := .unresolved, fromClosed := decide (r.state = .closed) }
  | .unresolved | .disabled | .testWait | .testing | .closing | .opening | .tripping | .deadTime | .remoteWait
  | .breakerFail => r

/-- RP after a warm reset (R146). -/
def warmRp (r : RingPort) : RingPort := { r with forward := [], control := [], report := [], turn := .forward }

/-- LTU after a warm reset (R118): a measurement begins again. -/
def warmLtu (l : Ltu) : Ltu :=
  if l.circuit = .measuring then
    { l with record := l.record.map fun r => { r with lineSum := 0, busSum := 0, count := 0, bus := none } }
  else l

/-- The outstanding command of a group, where there is one, with the time of an earlier issue: the limits that run from it
run on (R118). -/
def issuedSince (t : Nat) (g : CmdGroup) (x : Slot) : Slot :=
  setOutstanding x g ((outstanding x g).map fun c => { c with sentAt := t })

/-- One outstanding command issued again with a new tag and a new echo timer, the open watch and the time of its original
issue running on; lost at once, its issuer takes the failure branch (R98, R118, R76). A TRIP is not issued again. R98 has
each outstanding command issued again: so is one to the slot of a DISABLED or an UNRESOLVED feeder, to which R78 sends
nothing. DESIGN CHOICE (notes/assumptions/37.md). -/
def reissueOne (k : Fin 9) (g : CmdGroup) (s : State) : State :=
  match outstanding (s.slot k) g with
  | none => s
  | some c =>
    if c.cmd = .trip then s
    else
      let watch := (s.slot k).openWatch
      let tag := (s.slot k).nextTag.toNat
      let x := issueCommand k c.cmd s
      let s1 := x.1.setSlot k { issuedSince c.sentAt g (x.1.slot k) with openWatch := watch }
      if x.2 then s1 else failureBranch k c.cmd tag s1

/-- The outstanding commands of a slot issued again, the earlier one first. -/
def reissueSlot (k : Fin 9) (s : State) : State :=
  match (s.slot k).lastGroup with
  | .breaker => reissueOne k .breaker (reissueOne k .contactor s)
  | .contactor => reissueOne k .contactor (reissueOne k .breaker s)

/-- The warm reset of every block, but for a trial's revert (R180). The outstanding commands are issued again in rising slot
number, which fixes their order in CONTROL and which are lost past its 14. DESIGN CHOICE (notes/assumptions/40.md). -/
def warmStart (s : State) : State :=
  let s1 := restartMsu s
  let s2 : State :=
    { s1 with
      rp := warmRp s1.rp
      fpr := mapBank warmProtection s1.fpr
      fsq := { s1.fsq with feeders := mapBank warmFeeder s1.fsq.feeders }
      ltu := warmLtu s1.ltu
      recs := { s1.recs with readPtr := none }
      mgt := { s1.mgt with warmReset := some s1.now } }
  forEach 9 reissueSlot s2

/-- The settings state that the reference image gives (R154). -/
def referenceState (x : Sst) : SettingsState := .base (if x.refDefault then .default else .stored)

/-- The reference image switched in, and TRIAL_REVERTED logged with its cause (R154), before the events of the switch.
DESIGN CHOICE (notes/assumptions/15.md). -/
def revertImage (cause : Cause) (s : State) : State :=
  let s1 := logEvent .settings .trialReverted { causes := [.cause cause] } s
  let s2 := switchImage s1.sst.reference s1
  s2.setSst { s2.sst with settings := referenceState s2.sst }

/-- The warm reset of the part, with a trial in force reverted as part of it (R161). A condition that rises at the warm
reset is latched at it (R168), before the revert can end it. -/
def warmRestart (s : State) : State :=
  let s1 := latchRises s (warmStart s)
  if s1.sst.settings = .base .trial then revertImage .restart s1 else s1

end Sys2Proof.Machine
end

