-- ==== Sys2Proof/Machine/Operands.lean ====
section
/-! DEFINITION. The forms of a request's operands and of its answer: rights (R177), the gate of the settings requests
(R151), arguments as bytes (11.3), the response (R176, 11.2), and the serving of one request. -/

namespace Sys2Proof.Machine

/-! ### Arguments -/

/-- A feeder number argument, 0 to 7. -/
def feederArg (b : Byte) : Option (Fin 8) := if h : b.toNat < 8 then some ⟨b.toNat, h⟩ else none

/-- A segment argument, 0 to 3. -/
def segmentArg (b : Byte) : Option (Fin 4) := if h : b.toNat < 4 then some ⟨b.toNat, h⟩ else none

/-- A selection argument (R22). -/
def selectionArg (b : Byte) : Option Selection := selectionOf b.toNat

/-- An entry of the image named by a table code and an entry number (R148, R150). -/
def entryArg (table entry : Byte) : Option (Table × Nat) :=
  match tableOfCode table with
  | some t => if entry.toNat < tableSize t then some (t, entry.toNat) else none
  | none => none

/-- The bytes of a value of a whole number of bytes, most significant first. -/
def wordBytes {w : Nat} (n : Nat) (x : BitVec w) : List Byte := beBytes n x.toNat

/-! ### Rights and the gate -/

/-- A manager entry holds a right. -/
def entryHolds (e : ManagerEntry) : Right → Bool
  | .read => e.read
  | .operate => e.operate
  | .configure => e.configure

/-- A requester holds a right: by an entry of its own address, or READ by the wildcard (R177). -/
def holdsRight (m : Image) (src : Byte) (r : Right) : Bool :=
  m.managers.toList.any fun e =>
    if e.address = 0 then decide (r = .read) && e.read else decide (e.address = src) && entryHolds e r

/-- The requests refused during a commit (R151, R180). -/
def refusedInCommit : Request → Bool
  | .stageWrite | .stageDiscard | .commit | .applyTrial | .revertTrial | .readSettings | .restart => true
  | _ => false

/-- The requests that need the settings key (R151). -/
def needsKey : Request → Bool
  | .stageWrite | .commit | .applyTrial => true
  | _ => false

/-- The requests that need the staging image (R151). -/
def needsStaging : Request → Bool
  | .commit | .applyTrial => true
  | _ => false

/-- The gate's answer where it refuses a request: the first check that fails (R151). -/
def gateAnswer (q : Request) (s : State) : Option Result :=
  if committing s && refusedInCommit q then some .busy
  else if decide (s.sst.key = .locked) && needsKey q then some .locked
  else if s.sst.staging.isNone && needsStaging q then some .wrongState
  else if decide (q = .revertTrial) && decide (s.sst.settings ≠ .base .trial) then some .wrongState
  else none

/-! ### The answer -/

/-- An owner's answer: the result, the reason of a REFUSED, and the body. -/
structure Reply where
  result : Result
  reason : Option Reason := none
  body   : List Byte := []
  deriving DecidableEq, Repr

/-- The MGMT_RESPONSE payload (11.2): the reason is 0 unless the result is REFUSED. -/
def responsePayload (tag code : Byte) (r : Reply) : List Byte :=
  [tag, code, BitVec.ofNat 8 (resultCode r.result),
   BitVec.ofNat 8 (match r.reason with
     | some x => reasonCode x
     | none => 0)] ++ r.body

/-- A response addressed to the requester, placed in the REPORT queue or dropped (R143, R176). -/
def respond (src tag code : Byte) (r : Reply) (s : State) : State :=
  s.setRp (placeResponse
    { dst := src, src := s.rp.own, kind := kindResponse, payload := responsePayload tag code r } s.rp)

/-- The code byte of a request. -/
def codeOf (q : Request) : Byte := BitVec.ofNat 8 (requestCode q)

/-- The answer that a validation failure gives: REFUSED with the reason, the table and the entry number (R152). That the
table stands before the entry is a DESIGN CHOICE (notes/assumptions/14.md). -/
def refusedReply (x : Failure) : Reply :=
  { result := .refused, reason := some x.reason, body := beBytes 1 (tableCode x.table) ++ beBytes 2 x.entry }

/-- What a request does once taken from MGT's hands (R176 steps 3 to 5): the right, the gate, and the owner's own
part, whose answer is placed after it. -/
def answerRequest (q : Request) (src tag : Byte) (owner : State → State × Reply) (s : State) : State :=
  if holdsRight s.img src (requestRight q) then
    match gateAnswer q s with
    | some r => respond src tag (codeOf q) { result := r } s
    | none => respond src tag (codeOf q) (owner s).2 (owner s).1
  else respond src tag (codeOf q) { result := .notAuthorised } s

/-- A request served (R176). -/
def serve (q : Request) (src tag : Byte) (args : List Byte) (owner : State → State × Reply) (s : State) :
    Host.Outcome State Fault Refusal :=
  finish s (answerRequest q src tag owner (takeRequest src tag (codeOf q) args s))

/-- A request that only reads: the body as the state stands. -/
def readOnly (body : State → Reply) (s : State) : State × Reply := (s, body s)

/-- An answer that changes nothing. -/
def refuse (r : Result) (s : State) : State × Reply := (s, { result := r })

end Sys2Proof.Machine
end

