-- ==== Sys2Proof/Machine/Bodies.lean ====
section
/-! DEFINITION. The bodies of responses, the station report, and the records that other units see (R47, R72, R96, R119,
R134, R147, R162, R164, R172, R175, R179, R181, R183, 11.2, 11.6). -/

namespace Sys2Proof.Machine

/-! ### Items of a body (11.2 note 2) -/

/-- A code, flag or number of 1 byte. -/
def item1 (n : Nat) : List Byte := beBytes 1 n
/-- A value of 2 bytes. -/
def item2 (x : Int) : List Byte := beBytes 2 x
/-- A value of 4 bytes. -/
def item4 (x : Int) : List Byte := beBytes 4 x
/-- A flag or a mark: 1 where it is set, 0 where it is clear. DESIGN CHOICE (notes/assumptions/9.md). -/
def itemFlag (b : Bool) : List Byte := item1 (if b then 1 else 0)
/-- An optional item: a presence byte, and the value where it is present. -/
def itemOpt {α : Type} (enc : α → List Byte) : Option α → List Byte
  | some x => 1 :: enc x
  | none => [0]
/-- A list: a count byte and the items. -/
def itemList {α : Type} (enc : α → List Byte) (xs : List α) : List Byte := item1 xs.length ++ xs.flatMap enc
/-- A station time: 6 bytes and the time-flags byte. -/
def itemTime (t : BitVec 48) (set : Bool) : List Byte := beBytes 6 t.toNat ++ itemFlag set
/-- A name: a count byte and its characters. DESIGN CHOICE (notes/assumptions/9.md). -/
def itemName (x : String) : List Byte := itemList (fun c => item1 c.toNat) x.toList

/-- The time a running timer has counted, in ms, in 2 bytes; absent when stopped. DESIGN CHOICE (notes/assumptions/36.md). -/
def itemMs2 (now : Nat) (t : Timer) : List Byte := itemOpt item2 (countedMs now t)
/-- The same in 4 bytes. DESIGN CHOICE (notes/assumptions/36.md). -/
def itemMs4 (now : Nat) (t : Timer) : List Byte := itemOpt item4 (countedMs now t)

/-! ### READ_FEEDER (R96, R47) -/

/-- The last trip record of a feeder (R81): the cause list, its first cause as the primary cause (R41), the current, the
group and the time. -/
def tripItem (t : TripRecord) : List Byte :=
  itemList (fun c => item1 (causeCode c)) t.causes ++ (t.causes.take 1).flatMap (fun c => item1 (causeCode c)) ++
  itemOpt item2 t.current ++ item1 (groupCode t.group).toNat ++ itemTime t.time t.timeSet

/-- The feeder record, in the order of section 4.2, with the state timer's time counted and its limit. -/
def feederItems (s : State) (f : Fin 8) : List Byte :=
  let r := s.feeder f
  item1 (feederStateCode r.state) ++ itemOpt (fun c => item1 (classCode c)) r.cls ++ itemFlag r.mask ++
  itemFlag r.permit ++ itemFlag r.lockoutFlag ++ item2 r.shots ++ itemOpt (fun n => item2 (n : Nat)) r.deadIndex ++
  itemFlag r.deadElapsed ++ itemFlag r.recloseActive ++ itemMs4 s.now r.reclaim ++ itemMs4 s.now r.stateTimer ++
  itemOpt (fun n => item4 (n / 1000 : Nat)) (if r.stateTimer.isSome then stateLimit s f else none) ++
  itemFlag r.withinReclaim ++ itemOpt tripItem r.lastTrip ++ item4 r.closes ++ item4 r.trips ++ item4 r.wear

/-- A command and its tag. -/
def commandItem (c : Command) : List Byte := item1 (cmdCode c.cmd) ++ item2 c.tag.toNat

/-- The slot record, in the order of R73's table. While the reported values are absent (R97, R98), the position and the
echoed tag are absent optional items, as that table has them, and the self-trip, test contactor and trip coil items are
0 bytes. DESIGN CHOICE (notes/assumptions/9.md). -/
def slotItems (s : State) (k : Fin 9) : List Byte :=
  let x := s.slot k
  itemOpt (fun r => item1 (positionCode r.position)) x.report ++ itemFlag (x.report.any (·.selfTrip)) ++
  itemFlag (x.report.any (·.contactorOn)) ++ itemOpt (fun r => item2 r.echoed.toNat) x.report ++
  itemFlag (x.report.any (·.coilHealthy)) ++ itemMs2 s.now x.freshness ++ itemFlag x.unknown ++ item2 x.nextTag.toNat ++
  itemOpt commandItem x.breakerCmd ++ itemOpt commandItem x.contactorCmd ++
  itemMs2 s.now (x.breakerCmd.bind (·.echo)) ++ itemMs2 s.now (x.contactorCmd.bind (·.echo)) ++ itemMs2 s.now x.openWatch

/-- θ as a share of I_th² in percent, saturated at 255 (R47). -/
def thetaShare (s : State) (f : Fin 8) : Int :=
  min 255 (floorDiv (100 * (s.prot f).theta) (thermalLevel s.img.feeders[f]))

/-- The rise record of R47, with the state QUIET 0 and RISING 1. DESIGN CHOICE (notes/assumptions/9.md). -/
def riseItems : Rise → List Byte
  | .quiet => item1 0 ++ [0] ++ item2 0 ++ item2 0 ++ item2 0
  | .rising i n c e => item1 1 ++ itemOpt item2 (some i) ++ item2 n ++ item2 c ++ item2 e

/-- The protection part (R47). -/
def protectionItems (s : State) (f : Fin 8) : List Byte :=
  let p := s.prot f
  item1 (selectionCode p.selection).toNat ++ item1 (groupCode (activeGroup s f)).toNat ++
  itemOpt (fun g => item1 (groupCode g).toNat) p.groupInUse ++ riseItems p.rise ++ item4 p.theta ++
  item2 (thetaShare s f) ++ itemFlag p.thermalAlarm ++ itemFlag p.inhibit ++ itemFlag p.uvCondition ++
  itemMs2 s.now p.uvTimer ++ itemMs2 s.now p.lossTimer ++ itemFlag p.demand.isSome

/-- The READ_FEEDER body of a feeder (R96). -/
def feederBody (s : State) (f : Fin 8) : List Byte :=
  feederItems s f ++ slotItems s (slotOf s.img f) ++ itemFlag (decide ((s.feeder f).state = .tripping)) ++
  protectionItems s f

/-- The code of slot 8's command state, in the order of R95. -/
def groupStateCode : GroupState → Nat
  | .idle => 0
  | .closing => 1
  | .tripping => 2
  | .failed => 3

/-- The READ_FEEDER body of slot 8 (R96). -/
def groupBody (s : State) : List Byte := slotItems s 8 ++ item1 (groupStateCode s.fsq.groupState)

/-! ### READ_STATUS (R179) -/

/-- DEVICE (R179). The two elapsed times are in whole milliseconds. DESIGN CHOICE (notes/assumptions/36.md). -/
def deviceBody (s : State) : List Byte :=
  itemTime s.mgt.time s.mgt.timeSet ++ item2 s.rp.own.toNat ++ itemFlag (summary s) ++ item4 s.recs.latched.toNat ++
  item4 s.recs.latest.toNat ++ item1 (settingsCode s.sst.settings) ++ item4 s.mgt.malformed ++
  item4 (s.now / 1000 : Nat) ++ itemMs4 s.now s.mgt.warmReset

/-- The start phase of STARTING (R72): WAIT_BREAKER 0 or RAMP 1. DESIGN CHOICE (notes/assumptions/9.md). -/
def startPhase : RectState → Option Nat
  | .waitBreaker => some 0
  | .ramp => some 1
  | .stopped | .regulating | .limiting | .phaseBack | .restoring | .tripped => none

/-- One gate unit's part of RECTIFIER (R72). -/
def gateItems (s : State) (u : GateUnit) : List Byte :=
  item2 (gateAddress s.img u).toNat ++ itemOpt itemFlag (s.rct.gate u).report ++ itemFlag (gateFault s.rct u) ++
  itemMs2 s.now (s.rct.gate u).sync

/-- The sum of the misfire history (R58). -/
def misfireSum (l : List (Nat × Nat)) : Nat := (l.map (·.2)).sum

/-- RECTIFIER (R72). -/
def rectBody (s : State) : List Byte :=
  let r := s.rct
  item1 (rectStateCode r.state) ++ itemOpt item1 (startPhase r.state) ++ itemOpt item2 r.out ++ itemOpt item2 r.alpha ++
  item2 r.dReg ++ item2 r.dCl ++ itemOpt item2 r.dSs ++ itemOpt item2 r.dRest ++ item2 r.vRef ++ item2 r.err ++
  item4 r.xi ++ item2 r.vBus ++ item2 r.iRect ++ itemMs2 s.now r.pbTimer ++ itemMs2 s.now r.busLoss ++
  gateItems s .a ++ gateItems s .b ++ item2 (misfireSum r.misfires : Nat) ++ item2 r.misfires.length ++
  itemOpt (fun c => item1 (causeCode c)) r.lastTrip ++ itemOpt (fun p => item1 (positionCode p)) r.groupPos

/-- The measurements of a completed test: the two averages, and R_line with its CLAMPED mark where computed (R109). -/
def measurementItems (m : Measured) : List Byte :=
  item2 m.lineAvg ++ item2 m.busAvg ++ itemOpt (fun r : Nat × Bool => item4 r.1 ++ itemFlag r.2) m.resistance

/-- The code of a test record's outcome: none 0, requeue 1, or the cause code of the result.
DESIGN CHOICE (notes/assumptions/9.md). -/
def outcomeCode : TestOutcome → Nat
  | .none => 0
  | .requeue => 1
  | .result m => causeCode (resultCause m.result)

/-- The measurements that an outcome holds: those of a result (section 5.2). -/
def outcomeMeasured : TestOutcome → Option Measured
  | .result m => some m
  | .none | .requeue => none

/-- The test record of TEST_CIRCUIT (R119). -/
def recordItems (s : State) (r : TestRecord) : List Byte :=
  itemOpt (fun f : Fin 8 => item1 f.val) r.feeder ++ item1 (classCode r.cls) ++ item1 r.slot.val ++
  item1 (circuitCode s.ltu.circuit) ++ itemMs2 s.now r.stage ++ item2 r.count ++ item1 (outcomeCode r.outcome) ++
  itemOpt measurementItems (outcomeMeasured r.outcome)

/-- The latest completed test of TEST_CIRCUIT (R119). -/
def measuredItems (x : Fin 8 × Measured) : List Byte :=
  item1 x.1.val ++ item1 (causeCode (resultCause x.2.result)) ++ measurementItems x.2

/-- TEST_CIRCUIT (R119). The slots with a stray contactor stand in the order in which they became stray.
DESIGN CHOICE (notes/assumptions/9.md). -/
def testBody (s : State) : List Byte :=
  item1 (circuitCode s.ltu.circuit) ++ itemOpt (recordItems s) s.ltu.record ++
  itemList (fun e : Fin 8 × CloseClass => item1 e.1.val ++ item1 (classCode e.2) ++ itemFlag (eligible s e.1)) s.ltu.queue ++
  itemList (fun e : Fin 8 × Nat => item1 e.1.val) s.ltu.strays ++ itemOpt measuredItems s.ltu.lastTest

/-- The time the silence timer has counted, in ms: 10 where it stands stopped at its limit (section 6.4). -/
def silenceMs (now : Nat) (t : Timer) : Int := (countedMs now t).getD 10

/-- One port's part of PILOT (R134). -/
def linkItems (s : State) (p : Port) : List Byte :=
  let l := s.link p
  itemFlag (portConfigured s.img p) ++ itemFlag l.up ++ itemOpt (fun n => item2 (n : Nat)) l.remoteId ++
  itemOpt (fun q : BitVec 16 => item2 q.toNat) l.lastSeq ++ item2 l.run ++ item2 (silenceMs s.now l.silence) ++
  itemFlag l.conflict ++ item2 l.outSeq.toNat ++ item2 l.discarded ++
  itemList (fun e : Byte × Bool => item2 e.1.toNat ++ itemFlag e.2) l.unknown

/-- One section record's part of PILOT (R134). -/
def sectionItems (s : State) (i : Fin 8) : List Byte :=
  let e := s.img.sections[i]
  let r := s.sco.sections[i]
  item1 e.feeder.val ++ item2 (portNumber e.port) ++ item2 e.sectionId.toNat ++
  item1 (endStateCode (localEnd (s.feeder e.feeder))) ++ item1 (endStateCode r.remote) ++ itemMs2 s.now r.hold ++
  itemFlag r.flag ++ itemFlag (livePermission s e.feeder)

/-- PILOT (R134). -/
def pilotBody (s : State) : List Byte :=
  linkItems s .one ++ linkItems s .two ++
  itemList (sectionItems s) ((List.finRange 8).filter fun i => s.img.sections[i].inUse)

/-- RING (R147). -/
def ringBody (s : State) : List Byte :=
  let r := s.rp
  item2 r.own.toNat ++ item2 r.straps.toNat ++ item4 r.good ++ item4 r.bad ++ item4 r.addressErr ++ item4 r.stripped ++
  item4 r.taken ++ item4 r.forwarded ++ item4 r.unexpected ++ item2 r.windowBad ++ item2 r.windowOver ++
  item2 r.lastBad ++ item2 r.lastOver ++ item4 r.overruns ++ item4 r.cmdsLost ++ item4 r.heldOver ++
  item4 r.repsSkipped ++ item4 r.respsDropped ++ item2 r.trip.length ++ item2 r.forward.length ++
  item2 r.control.length ++ item2 r.report.length

/-- The code of the key position: LOCKED 0, UNLOCKED 1. DESIGN CHOICE (notes/assumptions/9.md). -/
def keyCode : KeyPos → Nat
  | .locked => 0
  | .unlocked => 1

/-- The code of the arbiter's state, in the order of R157. -/
def arbiterCode : ArbiterState → Nat
  | .idle => 0
  | .image => 1
  | .flags => 2

/-- The outcome of the latest commit: 0 when done, else the reason code. DESIGN CHOICE (notes/assumptions/9.md). -/
def commitCode : Option Reason → Nat
  | none => 0
  | some r => reasonCode r

/-- In COMMITTING, the state remembered and the time since the image write began, absent while it waits (R162). One
presence byte stands for the two, and the time has one of its own within them. DESIGN CHOICE (notes/assumptions/9.md). -/
def commitItems (s : State) : List Byte :=
  match s.sst.settings with
  | .committing b => 1 :: item1 (baseCode b) ++ itemMs2 s.now (if s.sst.arbiter = .image then s.sst.writeStart else none)
  | .base _ => [0]

/-- SETTINGS (R162), with the staging state EMPTY 0 or OPEN 1 and each mark valid 1 or INVALID 0.
DESIGN CHOICE (notes/assumptions/9.md). -/
def settingsBody (s : State) : List Byte :=
  let x := s.sst
  item1 (settingsCode x.settings) ++ commitItems s ++ item1 (if x.refDefault then 2 else 0) ++
  itemFlag x.staging.isSome ++ itemOpt (fun n => item2 (n : Nat)) (stagedDifferences s) ++ item1 (keyCode x.key) ++
  itemFlag x.storedValid ++ itemFlag x.flagsValid ++ item1 (arbiterCode x.arbiter) ++ itemFlag x.imageWaiting ++
  itemFlag x.flagsPending ++ itemOpt (fun r => item1 (commitCode r)) x.lastCommit

/-- The READ_STATUS body of a part (R179, 11.3). -/
def statusBody (part : Byte) (s : State) : Option (List Byte) :=
  match part.toNat with
  | 0 => some (deviceBody s)
  | 1 => some (rectBody s)
  | 2 => some (testBody s)
  | 3 => some (pilotBody s)
  | 4 => some (ringBody s)
  | 5 => some (settingsBody s)
  | _ => none

/-- The IDENTIFY body (R179). -/
def identifyBody (s : State) : List Byte :=
  itemName "Asjoren" ++ itemName "Iperfa" ++ itemName "T816" ++ item1 Config.revision.toNat ++
  item2 s.rp.straps.toNat ++ item2 s.rp.own.toNat

/-! ### The event log (R164, R183, 11.6) -/

/-- The bytes that a response's body may hold: 250 less the 4 of the payload's head (11.2). -/
def bodyRoom : Nat := 246

/-- The source type and index of an event (11.6); the index of a source without a number is 0.
DESIGN CHOICE (notes/assumptions/9.md). -/
def sourceBytes : Source → List Byte
  | .feeder f => item1 0 ++ item1 f.val
  | .slot k => item1 1 ++ item1 k.val
  | .rectifier => item1 2 ++ item1 0
  | .testCircuit => item1 3 ++ item1 0
  | .pilot p => item1 4 ++ item1 (portNumber p).toNat
  | .ring => item1 5 ++ item1 0
  | .settings => item1 6 ++ item1 0
  | .part => item1 7 ++ item1 0

/-- A bit of a bitmap. -/
def bitIf (b : Bool) (n : Nat) : Nat := if b then 2 ^ n else 0

/-- The presence bitmap of an event's detail (11.6). -/
def presence (d : Detail) : Nat :=
  bitIf (!d.causes.isEmpty) 0 + bitIf d.current.isSome 1 + bitIf d.voltage.isSome 2 + bitIf d.group.isSome 3 +
  bitIf d.shot.isSome 4 + bitIf d.resistance.isSome 5 + bitIf d.tag.isSome 6 + bitIf d.point.isSome 7 +
  bitIf d.number.isSome 8

/-- A field that is present, without a presence byte. -/
def fieldOpt {α : Type} (enc : α → List Byte) : Option α → List Byte
  | some x => enc x
  | none => []

/-- The present fields of an event's detail, in bit order (11.6). -/
def detailBytes (d : Detail) : List Byte :=
  (if d.causes.isEmpty then [] else itemList (fun c => item1 (codeByte c)) d.causes) ++ fieldOpt item2 d.current ++
  fieldOpt item2 d.voltage ++ fieldOpt (fun g => item1 (groupCode g).toNat) d.group ++ fieldOpt item1 d.shot ++
  fieldOpt (fun r : Nat × Bool => item4 r.1) d.resistance ++ fieldOpt (fun n : Nat => item2 n) d.tag ++
  fieldOpt (fun p : Fin 32 => item1 p.val) d.point ++ fieldOpt (fun n : Nat => item4 n) d.number

/-- An event record (11.6). -/
def eventBytes (e : EventRec) : List Byte :=
  beBytes 4 e.number.toNat ++ beBytes 6 e.time.toNat ++
  item1 (bitIf (!e.timeSet) 0 + bitIf (e.detail.resistance.any (·.2)) 1) ++ sourceBytes e.source ++
  item1 (eventKindCode e.kind) ++ beBytes 2 (presence e.detail) ++ detailBytes e.detail

/-- The leading items of a list that fit whole in some room. -/
def fitting {α : Type} (enc : α → List Byte) : Nat → List α → List α
  | _, [] => []
  | room, x :: xs =>
    if (enc x).length ≤ room then x :: fitting enc (room - (enc x).length) xs else []

/-- The records that READ_EVENTS selects, and its GAP (R164). -/
def selectEvents (r : Records) (first : BitVec 32) : List EventRec × Bool :=
  if r.log.any fun e => decide (e.number = first) then (r.log.dropWhile fun e => decide (e.number ≠ first), false)
  else if first = r.latest + 1 then ([], false)
  else (r.log, true)

/-- The READ_EVENTS body (R164, R183). -/
def eventsBody (s : State) (first : BitVec 32) (max : Nat) : List Byte :=
  let x := selectEvents s.recs first
  let head := itemOpt (fun e : EventRec => item4 e.number.toNat) s.recs.log.head? ++ item4 s.recs.latest.toNat
  let recs := fitting eventBytes (bodyRoom - head.length - 2) (x.1.take max)
  head ++ itemFlag x.2 ++ item1 recs.length ++ recs.flatMap eventBytes

/-! ### Capture records (R172, R183, 11.6) -/

/-- The state of a channel in a row's state bits: the point state codes, with NONE as 0. -/
def markCode (c : Channel) : Nat :=
  match c.mark with
  | some p => pointStateCode p
  | none => 0

/-- The state bytes of a row: two bits per channel (11.6), the first channel of a byte in its least significant bits.
DESIGN CHOICE (notes/assumptions/9.md). -/
def stateBytes : List Nat → List Byte
  | [] => []
  | [a] => item1 a
  | [a, b] => item1 (a + 4 * b)
  | [a, b, c] => item1 (a + 4 * b + 16 * c)
  | a :: b :: c :: d :: rest => item1 (a + 4 * b + 16 * c + 64 * d) ++ stateBytes rest

/-- A capture row (11.6). -/
def rowBytes (r : Row) : List Byte :=
  item1 (r.advance + if r.resync then 8 else 0) ++ stateBytes (r.channels.map markCode) ++
  r.channels.flatMap fun c => item2 c.value

/-- A capture record's header (11.6). -/
def headerBytes (i : Fin 4) (h : Header) : List Byte :=
  item1 i.val ++ item4 h.record ++ item1 (causeCode h.cause) ++ itemTime h.time h.timeSet ++ item2 h.validRows ++
  item2 (h.triggerRow.getD 65535 : Nat) ++ item2 h.postRows ++ itemList (fun p : Fin 32 => item1 p.val) h.channels

/-- The rows that a readout returns from a start row, at most `count` and no more than fit (R172, R183). -/
def readRows (i : Fin 4) (g : Segment) (h : Header) (start count : Nat) : List Row :=
  fitting rowBytes (bodyRoom - (headerBytes i h).length - 4) ((g.rows.drop start).take count)

/-- The body of a readout (R183): the END flag marks a readout at the end of the record. -/
def captureBody (i : Fin 4) (g : Segment) (h : Header) (start count : Nat) : List Byte :=
  let rows := readRows i g h start count
  headerBytes i h ++ item2 start ++ item1 rows.length ++ itemFlag (decide (g.rows.length ≤ start)) ++
  rows.flatMap rowBytes

/-! ### The snapshot and the station report (R175, R181) -/

/-- The set that a snapshot holds, read at one event (R175). -/
def takeSnapshot (s : State) : Snapshot :=
  { time := s.mgt.time, timeSet := s.mgt.timeSet
    points := tabulate fun p => { state := (s.point p).state, value := pointValue s p }
    thetas := tabulate fun f => (s.prot f).theta
    rect := s.rct.state, out := s.rct.out, alpha := s.rct.alpha }

/-- The READ_SNAPSHOT body: the set, and the LIVE mark (R175). -/
def snapshotBody (x : Snapshot) (live : Bool) : List Byte :=
  itemTime x.time x.timeSet ++
  x.points.toList.flatMap (fun p => item1 (pointStateCode p.state) ++ itemOpt item2 p.value) ++
  x.thetas.toList.flatMap item4 ++ item1 (rectStateCode x.rect) ++ itemOpt item2 x.out ++ itemOpt item2 x.alpha ++
  itemFlag live

/-- The link of a port in the station report: DOWN 0, UP 1, not configured 2 (11.2). -/
def linkCode (s : State) (p : Port) : Nat :=
  if portConfigured s.img p then (if (s.link p).up then 1 else 0) else 2

/-- The STATION_REPORT payload (R181, 11.2). -/
def reportPayload (s : State) : List Byte :=
  beBytes 2 s.mgt.reportCount.toNat ++ itemTime s.mgt.time s.mgt.timeSet ++
  s.fsq.feeders.toList.flatMap (fun r => item1 (feederStateCode r.state)) ++ item1 (rectStateCode s.rct.state) ++
  item2 (s.rct.out.getD 65535) ++ item2 (s.rct.alpha.getD 65535) ++ item1 (linkCode s .one) ++ item1 (linkCode s .two) ++
  itemFlag (summary s) ++ beBytes 3 s.recs.latched.toNat ++ beBytes 4 s.recs.latest.toNat ++
  item1 (settingsCode s.sst.settings)

end Sys2Proof.Machine
end

