-- ==== Sys2Proof/Machine/FeederProtection.lean ====
section
/-! DEFINITION. The commands of feeder protection (chapter 2). -/

namespace Sys2Proof.Machine

/-- FEEDER_EVALUATION (R24): one presentation of the feeder's current point evaluated; the restart inhibit may let a
feeder leave DEAD_TIME (R87). A presentation of another point, or to a feeder out of service, is not acted on (R21). -/
def execFeederEvaluation (feeder : Fin 8) (s : State) : Host.Outcome State Fault Refusal :=
  match nextFor (.current feeder) s with
  | none => finish s s
  | some pr =>
    let s1 := takeFor (.current feeder) s
    if inService s1 feeder = true ∧ s1.img.feeders[feeder].currentPoint = pr.point then
      finish s (arbitrate (deadTimeLook feeder (evaluateFeeder feeder pr s1)))
    else finish s s1

/-- LINE_VOLTAGE_PRESENTATION (R36, R90): compared with U_min while armed, and looked at in REMOTE_WAIT. -/
def execLineVoltagePresentation (feeder : Fin 8) (s : State) : Host.Outcome State Fault Refusal :=
  match nextFor (.line feeder) s with
  | none => finish s s
  | some pr =>
    let s1 := takeFor (.line feeder) s
    if inService s1 feeder = true ∧ s1.img.feeders[feeder].linePoint = pr.point then
      finish s (remoteWaitLook feeder (uvPresent feeder pr.value s1))
    else finish s s1

/-- UNDERVOLTAGE_TIMER_EXPIRY (R36): t_uv of the active group reached. -/
def execUndervoltageTimerExpiry (feeder : Fin 8) (s : State) : Host.Outcome State Fault Refusal :=
  match (s.prot feeder).uvTimer with
  | none => finish s s
  | some t0 => finish s (uvExpire feeder (s.reach (t0 + ms (activeSettings s feeder).tUv)))

/-- LOSS_TIMER_EXPIRY (R39): with trip_on_loss, a demand of cause MEAS_LOSS. -/
def execLossTimerExpiry (feeder : Fin 8) (s : State) : Host.Outcome State Fault Refusal :=
  match (s.prot feeder).lossTimer with
  | none => finish s s
  | some t0 =>
    let fe := s.img.feeders[feeder]
    let s1 := s.reach (t0 + ms fe.tLoss)
    let s2 := s1.setProt feeder { s1.prot feeder with lossTimer := none }
    finish s (if fe.tripOnLoss then
      raiseDemand feeder [.measLoss] (pointValue s2 fe.currentPoint) (activeGroup s2 feeder) s2 else s2)

end Sys2Proof.Machine
end

