-- ==== Sys2Proof/Machine/FeederRequests.lean ====
section
/-! DEFINITION. The requests that act on feeders: closing and opening, resets, close masks, work permits, readout and the
group selection (R22, R79, R86, R91, R93, R94, R96). -/

namespace Sys2Proof.Machine

/-- An owner's part that takes a feeder number, BAD_ARG outside 0 to 7. -/
def onFeeder (b : Byte) (act : Fin 8 → State → State × Reply) (s : State) : State × Reply :=
  match feederArg b with
  | some f => act f s
  | none => refuse .badArg s

/-- The feeder's state as the body of a response. -/
def stateReply (r : Result) (f : Fin 8) (s : State) : Reply :=
  { result := r, body := item1 (feederStateCode (s.feeder f).state) }

/-- The slot's report lets a close go ahead: known, OPEN, and the trip coil healthy (R79). -/
def slotReady (s : State) (k : Fin 9) : Bool :=
  !(s.slot k).unknown &&
  (match (s.slot k).report with
    | some r => decide (r.position = .opened) && r.coilHealthy
    | none => false)

/-- The first check of R79's table that fails. -/
def closeRefusal (s : State) (f : Fin 8) : Option Result :=
  if (s.feeder f).state ≠ .opened then some .wrongState
  else if (s.feeder f).mask || (s.feeder f).permit then some .masked
  else if !slotReady s (slotOf s.img f) then some .notPermitted
  else if (lineValue s f).isNone then some .notPermitted
  else none

/-- FSQ's part in FEEDER_CLOSE (R79). The answer carries the feeder's state as FSQ leaves it, before LTU's arbiter looks
at the queue. -/
def feederCloseOwner (f : Fin 8) (s : State) : State × Reply :=
  match closeRefusal s f with
  | some r => (s, stateReply r f s)
  | none =>
    if lineLive s f then
      if livePermission s f then
        let s1 := enterClosing f .operator s
        (s1, stateReply .ok f s1)
      else
        let s1 := pulse .liveSourceUnknown s
        (s1, stateReply .notPermitted f s1)
    else
      let s1 := moveFeeder f .testWait .operator false s
      (arbitrate s1, stateReply .ok f s1)

/-- FEEDER_CLOSE (R79). -/
def execFeederClose (src tag feeder : Byte) (s : State) : Host.Outcome State Fault Refusal :=
  serve .feederClose src tag [feeder] (onFeeder feeder feederCloseOwner) s

/-- What FEEDER_OPEN does in a state, or none where it is refused (R86). -/
def feederOpened (f : Fin 8) (s : State) : Option State :=
  match (s.feeder f).state with
  | .closed | .closing => some (enterOpening f s)
  | .deadTime | .remoteWait | .testWait => some (enterState f .opened s)
  | .testing => some (testDeparture f .opened (enterState f .opened s))
  | .opened | .lockout => some s
  | .unresolved | .disabled | .tripping | .opening | .breakerFail => none

/-- FSQ's part in FEEDER_OPEN (R86). -/
def feederOpenOwner (f : Fin 8) (s : State) : State × Reply :=
  match feederOpened f s with
  | some s1 => (s1, { result := .ok })
  | none => refuse .wrongState s

/-- FEEDER_OPEN (R86). -/
def execFeederOpen (src tag feeder : Byte) (s : State) : Host.Outcome State Fault Refusal :=
  serve .feederOpen src tag [feeder] (onFeeder feeder feederOpenOwner) s

/-- The feeder's slot reports OPEN with position_unknown clear (R91). -/
def reportsOpen (s : State) (f : Fin 8) : Bool :=
  decide (position s (slotOf s.img f) = some .opened) && !(s.slot (slotOf s.img f)).unknown

/-- FSQ's part in RESET_LOCKOUT (R91). -/
def resetLockoutOwner (f : Fin 8) (s : State) : State × Reply :=
  if (s.feeder f).state = .lockout ∧ reportsOpen s f = true then
    let s1 := enterState f .opened s
    (requestFlagsWrite (s1.setFeeder f { s1.feeder f with lockoutFlag := false }), { result := .ok })
  else refuse .wrongState s

/-- RESET_LOCKOUT (R91). -/
def execResetLockout (src tag feeder : Byte) (s : State) : Host.Outcome State Fault Refusal :=
  serve .resetLockout src tag [feeder] (onFeeder feeder resetLockoutOwner) s

/-- FSQ's part in RESET_BF (R91). -/
def resetBfOwner (f : Fin 8) (s : State) : State × Reply :=
  if (s.feeder f).state = .breakerFail ∧ reportsOpen s f = true then (enterLockout f s, { result := .ok })
  else refuse .wrongState s

/-- RESET_BF (R91). -/
def execResetBf (src tag feeder : Byte) (s : State) : Host.Outcome State Fault Refusal :=
  serve .resetBf src tag [feeder] (onFeeder feeder resetBfOwner) s

/-! ### Close masks and work permits (R93, R94) -/

/-- The masks of the named feeders set to a value; the others stand (R93). -/
def setMasks (bitmap : Byte) (value : Bool) (s : State) : State :=
  s.setFsq { s.fsq with
    feeders := tabulate fun f => if bitmap.getLsbD f.val then { s.feeder f with mask := value } else s.feeder f }

/-- The masks as a bitmap of the feeders. -/
def maskBitmap (s : State) : Nat := ((List.finRange 8).map fun f : Fin 8 => bitIf (s.feeder f).mask f.val).sum

/-- FSQ's part in MASK_SET and MASK_CLEAR (R93). -/
def maskOwner (bitmap : Byte) (value : Bool) (s : State) : State × Reply :=
  let s1 := logEvent .part .maskChange { number := some bitmap.toNat } (setMasks bitmap value s)
  (s1, { result := .ok, body := item2 (maskBitmap s1 : Nat) })

/-- MASK_SET (R93). -/
def execMaskSet (src tag bitmap : Byte) (s : State) : Host.Outcome State Fault Refusal :=
  serve .maskSet src tag [bitmap] (maskOwner bitmap true) s

/-- MASK_CLEAR (R93), at which FSQ looks again at every feeder in DEAD_TIME (R87). -/
def execMaskClear (src tag bitmap : Byte) (s : State) : Host.Outcome State Fault Refusal :=
  serve .maskClear src tag [bitmap]
    (fun x => (arbitrate (deadTimeLooks (maskOwner bitmap false x).1), (maskOwner bitmap false x).2)) s

/-- A feeder's work permit set to a value, logged, and written through SST (R94). -/
def setPermit (f : Fin 8) (value : Bool) (s : State) : State :=
  requestFlagsWrite (logEvent (.feeder f) .workPermit { causes := [.cause (flagCause value)] }
    (s.setFeeder f { s.feeder f with permit := value }))

/-- WORK_PERMIT_SET (R94). -/
def execWorkPermitSet (src tag feeder : Byte) (s : State) : Host.Outcome State Fault Refusal :=
  serve .workPermitSet src tag [feeder] (onFeeder feeder fun f x => (setPermit f true x, { result := .ok })) s

/-- WORK_PERMIT_CLEAR (R94), at which FSQ looks again at a feeder in DEAD_TIME (R87). -/
def execWorkPermitClear (src tag feeder : Byte) (s : State) : Host.Outcome State Fault Refusal :=
  serve .workPermitClear src tag [feeder]
    (onFeeder feeder fun f x => (arbitrate (deadTimeLook f (setPermit f false x)), { result := .ok })) s

/-! ### Readout and the group selection (R96, R22) -/

/-- FSQ's answer to READ_FEEDER (R96). -/
def readFeederReply (number : Byte) (s : State) : Reply :=
  match feederArg number with
  | some f => { result := .ok, body := feederBody s f }
  | none => if number = 8 then { result := .ok, body := groupBody s } else { result := .badArg }

/-- READ_FEEDER (R96). -/
def execReadFeeder (src tag number : Byte) (s : State) : Host.Outcome State Fault Refusal :=
  serve .readFeeder src tag [number] (readOnly (readFeederReply number)) s

/-- FPR's part in GROUP_SELECT (R22): the selection, its event, and the change of active group it may make (R23, R36). The
active group of the answer is the one under the new selection. DESIGN CHOICE (notes/assumptions/14.md). -/
def groupSelectOwner (sel : Selection) (f : Fin 8) (s : State) : State × Reply :=
  let s1 := s.setProt f { s.prot f with selection := sel }
  let s2 := logEvent (.feeder f) .groupSelect { number := some (selectionCode sel).toNat } s1
  (groupsChanged s s2,
    { result := .ok, body := item1 (selectionCode sel).toNat ++ item1 (groupCode (activeGroup s1 f)).toNat })

/-- GROUP_SELECT (R22). -/
def execGroupSelect (src tag feeder selection : Byte) (s : State) : Host.Outcome State Fault Refusal :=
  serve .groupSelect src tag [feeder, selection]
    (onFeeder feeder fun f x =>
      match selectionArg selection with
      | some sel => groupSelectOwner sel f x
      | none => refuse .badArg x) s

end Sys2Proof.Machine
end

