-- ==== Sys2Proof/Machine/GroupRequests.lean ====
section
/-! DEFINITION. The requests that act on the rectifier group and on the test circuit (R60, R68, R116). -/

namespace Sys2Proof.Machine

/-- An answer that carries the rectifier state (R60, R68). -/
def rectReply (r : Result) (s : State) : Reply := { result := r, body := item1 (rectStateCode s.rct.state) }

/-- RCT's part in RECT_START (R60). -/
def rectStartOwner (tag : Byte) (s : State) : State × Reply :=
  if s.rct.state ≠ .stopped then (s, rectReply .wrongState s)
  else if rectPointsInUse s && fitted s.img 8 then
    let s1 := rectStarts .request (some tag.toNat) s
    (s1, rectReply .ok s1)
  else (s, rectReply .notPermitted s)

/-- RECT_START (R60). -/
def execRectStart (src tag : Byte) (s : State) : Host.Outcome State Fault Refusal :=
  serve .rectStart src tag [] (rectStartOwner tag) s

/-- RCT's part in RECT_STOP (R68). -/
def rectStopOwner (tag : Byte) (s : State) : State × Reply :=
  if s.rct.state = .tripped then (s, rectReply .wrongState s)
  else if s.rct.state = .stopped then (s, rectReply .ok s)
  else
    let s1 := rectStops .request (some tag.toNat) s
    (s1, rectReply .ok s1)

/-- RECT_STOP (R68). -/
def execRectStop (src tag : Byte) (s : State) : Host.Outcome State Fault Refusal :=
  serve .rectStop src tag [] (rectStopOwner tag) s

/-- RCT's part in RECT_RESET (R68); entry into STOPPED sends BLOCK to both units (R55). -/
def rectResetOwner (tag : Byte) (s : State) : State × Reply :=
  if s.rct.state = .tripped ∧ (s.rct.groupPos = some .opened ∨ fitted s.img 8 = false) then
    let s1 := sendSetpoints (rectEnter .stopped s)
    let s2 := logEvent .rectifier .rectReset { tag := some tag.toNat } s1
    (s2, rectReply .ok s2)
  else (s, rectReply .wrongState s)

/-- RECT_RESET (R68). -/
def execRectReset (src tag : Byte) (s : State) : Host.Outcome State Fault Refusal :=
  serve .rectReset src tag [] (rectResetOwner tag) s

/-- The circuit state as the body of a response. -/
def circuitReply (r : Result) (s : State) : Reply := { result := r, body := item1 (circuitCode s.ltu.circuit) }

/-- A slot holds the reset of the test circuit back: a configured slot with a test contactor that reports it ON, or has
position_unknown set (R116). A slot whose reported values a change of address made absent (R97) does not hold it back until
its restarted freshness timer expires, and then does, also where it has had no status since the cold reset.
DESIGN CHOICE (notes/assumptions/42.md). -/
def holdsReset (s : State) (k : Fin 9) : Bool := contactorSlot s.img k && (contactorOn s k || (s.slot k).unknown)

/-- TEST_OFF to each slot that reports its contactor ON and has none outstanding (R116). -/
def offAgain (s : State) : State :=
  forEach 8 (fun k x =>
    if contactorSlot x.img k.castSucc && contactorOn x k.castSucc && !testOffOutstanding (x.slot k.castSucc) then
      issueOnly k.castSucc .testOff x
    else x) s

/-- LTU's part in TEST_CIRCUIT_RESET (R116). -/
def testCircuitResetOwner (tag : Byte) (s : State) : State × Reply :=
  if s.ltu.circuit ≠ .outOfService then (s, circuitReply .wrongState s)
  else if (List.finRange 9).any fun k => holdsReset s k then (offAgain s, circuitReply .notPermitted s)
  else
    let s1 := s.setLtu { s.ltu with circuit := .idle, record := none }
    let s2 := arbitrate (logEvent .testCircuit .testCircuitReset { tag := some tag.toNat } s1)
    (s2, circuitReply .ok s2)

/-- TEST_CIRCUIT_RESET (R116). -/
def execTestCircuitReset (src tag : Byte) (s : State) : Host.Outcome State Fault Refusal :=
  serve .testCircuitReset src tag [] (testCircuitResetOwner tag) s

end Sys2Proof.Machine
end

