-- ==== Sys2Proof/Machine/Lines.lean ====
section
/-! DEFINITION. The commands of the reset and key lines. -/

namespace Sys2Proof.Machine

/-- COLD_RESET (R159): every block takes its cold reset values under the image that the store gives. -/
def execColdReset (straps : Byte) (key : KeyPos) (imageCheck flagsCheck : Bool) (s : State) :
    Host.Outcome State Fault Refusal :=
  finish s (coldStart straps key imageCheck flagsCheck s)

/-- The cause code of a key position (11.5). -/
def keyCause : KeyPos → Cause
  | .locked => .locked
  | .unlocked => .unlocked

/-- SETTINGS_KEY (R156): a change of the line changes the position and is logged; the same level is no change. -/
def execSettingsKey (pos : KeyPos) (s : State) : Host.Outcome State Fault Refusal :=
  if s.sst.key = pos then finish s s
  else finish s (logEvent .settings .settingsKey { causes := [.cause (keyCause pos)] } (s.setSst { s.sst with key := pos }))

end Sys2Proof.Machine
end

