-- ==== Sys2Proof/Machine/Management.lean ====
section
/-! DEFINITION. The commands of management: the station report, requests of a bad form, and MGT's own four requests
(chapter 10). -/

namespace Sys2Proof.Machine

/-- STATION_REPORT (R181): formed at the next whole period, and skipped where the REPORT queue is full (R143). -/
def execStationReport (s : State) : Host.Outcome State Fault Refusal :=
  let s1 := s.reach s.mgt.reportDue
  let f : RingFrame :=
    { dst := s1.img.station.reportDest, src := s1.rp.own, kind := kindStationReport, payload := reportPayload s1 }
  let s2 := if reportFull s1.rp then s1.setRp { s1.rp with repsSkipped := satAdd top32 s1.rp.repsSkipped 1 }
    else s1.setRp (placeReport f s1.rp)
  finish s (s2.setMgt { s2.mgt with reportCount := s2.mgt.reportCount + 1, reportDue := s2.mgt.reportDue + 10000 })

/-- MALFORMED_REQUEST (R176): dropped and counted. -/
def execMalformedRequest (src : Byte) (payload : Option Byte) (s : State) : Host.Outcome State Fault Refusal :=
  let f : RingFrame := { dst := s.rp.own, src := src, kind := kindRequest, payload := payload.toList }
  finish s (s.setMgt { s.mgt with
    requests := s.mgt.requests.erase f, malformed := satAdd top32 s.mgt.malformed 1 })

/-- BAD_REQUEST (R176): an unknown code, or arguments of another length than the code requires, answered BAD_REQUEST.
A request of a good form is none of this row's, and nothing happens. -/
def execBadRequest (src tag code : Byte) (args : List Byte) (s : State) : Host.Outcome State Fault Refusal :=
  if badForm code args then
    finish s (respond src tag code { result := .badRequest } (takeRequest src tag code args s))
  else finish s s

/-- IDENTIFY (R179). -/
def execIdentify (src tag : Byte) (s : State) : Host.Outcome State Fault Refusal :=
  serve .identify src tag [] (readOnly fun x => { result := .ok, body := identifyBody x }) s

/-- MGT's answer to READ_STATUS (R179). -/
def statusReply (part : Byte) (s : State) : Reply :=
  match statusBody part s with
  | some b => { result := .ok, body := b }
  | none => { result := .badArg }

/-- READ_STATUS (R179). -/
def execReadStatus (src tag part : Byte) (s : State) : Host.Outcome State Fault Refusal :=
  serve .readStatus src tag [part] (readOnly (statusReply part)) s

/-- The number of the TIME_SET event: the low 32 bits of the old count (R178). -/
def lowCount (t : BitVec 48) : Nat := (t.setWidth 32).toNat

/-- MGT's part in TIME_SET (R178): the event carries the new time. -/
def timeSetOwner (tag : Byte) (count : BitVec 48) (s : State) : State × Reply :=
  let s1 := s.setMgt { s.mgt with time := count, timeSet := true }
  (logEvent .part .timeSet { tag := some tag.toNat, number := some (lowCount s.mgt.time) } s1, { result := .ok })

/-- TIME_SET (R178). -/
def execTimeSet (src tag : Byte) (count : BitVec 48) (s : State) : Host.Outcome State Fault Refusal :=
  serve .timeSet src tag (wordBytes 6 count) (timeSetOwner tag count) s

/-- The change check of the reference image that refuses a RESTART in TRIAL (R154). -/
def restartRefusal (s : State) : Option Failure :=
  if s.sst.settings = .base .trial then changeChecks s s.sst.reference else none

/-- MGT's part in RESTART, past the gate (R180): the answer carries the latest event number after the reset. -/
def restartOwner (tag : Byte) (s : State) : State × Reply :=
  match restartRefusal s with
  | some x => (s, refusedReply x)
  | none =>
    let s1 := warmRestart (logEvent .part .restart { tag := some tag.toNat } s)
    (s1, { result := .ok, body := item4 s1.recs.latest.toNat })

/-- RESTART (R180). -/
def execRestart (src tag : Byte) (s : State) : Host.Outcome State Fault Refusal :=
  serve .restart src tag [] (restartOwner tag) s

end Sys2Proof.Machine
end

