-- ==== Sys2Proof/Machine/Measurement.lean ====
section
/-! DEFINITION. The commands of the measurement unit (chapter 1). -/

namespace Sys2Proof.Machine

/-- SAMPLE_FRAME (R2): the frame leaves MSU's hands; a well-formed one updates and presents its points, after which
LTU's arbiter looks (R104). -/
def execSampleFrame (frame : RingFrame) (s : State) : Host.Outcome State Fault Refusal :=
  let s1 := s.setMsu { s.msu with frames := s.msu.frames.erase frame }
  if sampleWellFormed frame then finish s (arbitrate (takeSample frame s1)) else finish s s1

/-- FRESHNESS_TIMEOUT (R13): the point becomes STALE, with no value of it left to take (R14), and FPR, RCT and LTU take
their parts (R38, R59, R108). -/
def execFreshnessTimeout (point : Fin 32) (s : State) : Host.Outcome State Fault Refusal :=
  match (s.point point).freshness with
  | none => finish s s
  | some t0 =>
    let s1 := pointStale point (s.reach (t0 + 500))
    finish s (arbitrate (ltuPointStale point (rctPointStale point (fprPointStale point s1))))

/-- START_TIMEOUT (R18): 2 s after the cold reset the start-up set is formed. -/
def execStartTimeout (s : State) : Host.Outcome State Fault Refusal :=
  if s.msu.startRunning then
    let s1 := s.reach 2000000
    let s2 := s1.setMsu { s1.msu with startRunning := false, startSet := neverFresh s1 }
    finish s (if (neverFresh s1).isEmpty then s2
      else logEvent .part .startTimeout { number := some (neverFresh s1).length } s2)
  else finish s s

end Sys2Proof.Machine
end

