-- ==== Sys2Proof/Machine/Pilot.lean ====
section
/-! DEFINITION. The commands of the section coordinator (chapter 6). -/

namespace Sys2Proof.Machine

/-- PILOT_FRAME (R120, R123): a frame received on a configured port; its changes are presented (R126), after which LTU's
arbiter looks. -/
def execPilotFrame (port : Port) (bytes : List Byte) (s : State) : Host.Outcome State Fault Refusal :=
  if portConfigured s.img port then finish s (arbitrate (presentLinks s (receivePilot port bytes s))) else finish s s

/-- PILOT_FRAME_SEND (R122): the frame of the next whole period. -/
def execPilotFrameSend (port : Port) (s : State) : Host.Outcome State Fault Refusal :=
  if portConfigured s.img port then finish s (sendPilot port (s.reach ((s.link port).period + 1000))) else finish s s

/-- PILOT_SILENCE_TIMEOUT (R124, R125): 10 ms without a taken frame. -/
def execPilotSilenceTimeout (port : Port) (s : State) : Host.Outcome State Fault Refusal :=
  match (s.link port).silence with
  | none => finish s s
  | some t0 =>
    let s1 := s.reach (t0 + 10000)
    finish s (arbitrate (presentLinks s1 (silenceExpires port s1)))

/-- GRACE_TIMER_EXPIRY (R126): the first 10 ms after the port's start have passed. -/
def execGraceTimerExpiry (port : Port) (s : State) : Host.Outcome State Fault Refusal :=
  match (s.link port).grace with
  | none => finish s s
  | some t0 =>
    let s1 := s.reach (t0 + 10000)
    finish s (s1.setLink port { s1.link port with grace := none })

/-- TRANSFER_TRIP_HOLD_END (R128): the hold of a section reaches 100 ms. -/
def execTransferTripHoldEnd (entry : Fin 8) (s : State) : Host.Outcome State Fault Refusal :=
  match s.sco.sections[entry].hold with
  | none => finish s s
  | some t0 =>
    let s1 := s.reach (t0 + 100000)
    finish s (s1.setSection entry { s1.sco.sections[entry] with hold := none })

end Sys2Proof.Machine
end

