-- ==== Sys2Proof/Machine/RecordRequests.lean ====
section
/-! DEFINITION. The requests that act on the event log, the alarms, the capture records and the snapshot (chapter 9). -/

namespace Sys2Proof.Machine

/-! ### Events and alarms (R164, R166, R167) -/

/-- REC's answer to READ_EVENTS (R164). -/
def readEventsReply (first : BitVec 32) (max : Byte) (s : State) : Reply :=
  if 1 ≤ max.toNat ∧ max.toNat ≤ 16 then { result := .ok, body := eventsBody s first max.toNat }
  else { result := .badArg }

/-- READ_EVENTS (R164). -/
def execReadEvents (src tag : Byte) (first : BitVec 32) (max : Byte) (s : State) : Host.Outcome State Fault Refusal :=
  serve .readEvents src tag (wordBytes 4 first ++ [max]) (readOnly (readEventsReply first max)) s

/-- The READ_ALARMS body: the active, latched and enabled parts as bitmaps, and the summary (R167). -/
def alarmsBody (s : State) : List Byte :=
  item4 (activeMask s).toNat ++ item4 s.recs.latched.toNat ++ item4 s.recs.enabled.toNat ++ itemFlag (summary s)

/-- READ_ALARMS (R167). -/
def execReadAlarms (src tag : Byte) (s : State) : Host.Outcome State Fault Refusal :=
  serve .readAlarms src tag [] (readOnly fun x => { result := .ok, body := alarmsBody x }) s

/-- MSU's part in CLEAR_ALARMS, before REC's (R7, R166). -/
def clearMsu (bitmap : BitVec 24) (s : State) : State :=
  if bitmap &&& alarmBit .mpOverflow ≠ 0 then clearOverflows s else s

/-- REC's part in CLEAR_ALARMS (R166): of the named alarms, those with an inactive condition lose their latch. -/
def clearAlarmsOwner (tag : Byte) (bitmap : BitVec 24) (s0 : State) : State × Reply :=
  let s := clearMsu bitmap s0
  let active := activeMask s
  let cleared := s.recs.latched &&& bitmap &&& ~~~active
  let stayed := s.recs.latched &&& bitmap &&& active
  let s1 := s.setRecs { s.recs with latched := s.recs.latched &&& ~~~cleared }
  let s2 := if cleared = 0 then s1
    else logEvent .part .alarmsCleared { tag := some tag.toNat, number := some cleared.toNat } s1
  (s2, { result := .ok, body := item4 s2.recs.latched.toNat ++ item4 stayed.toNat })

/-- CLEAR_ALARMS (R166). -/
def execClearAlarms (src tag : Byte) (bitmap : BitVec 24) (s : State) : Host.Outcome State Fault Refusal :=
  serve .clearAlarms src tag (wordBytes 3 bitmap) (clearAlarmsOwner tag bitmap) s

/-- The enables replaced, and ALARM_ENABLE logged (R167). -/
def enableOwner (tag : Byte) (enabled : BitVec 24) (s : State) : State × Reply :=
  let s1 := s.setRecs { s.recs with enabled := enabled }
  (logEvent .part .alarmEnable { tag := some tag.toNat, number := some enabled.toNat } s1,
    { result := .ok, body := item4 enabled.toNat })

/-- ALARM_ENABLE_SET (R167). -/
def execAlarmEnableSet (src tag : Byte) (bitmap : BitVec 24) (s : State) : Host.Outcome State Fault Refusal :=
  serve .alarmEnableSet src tag (wordBytes 3 bitmap) (fun x => enableOwner tag (x.recs.enabled ||| bitmap) x) s

/-- ALARM_ENABLE_CLEAR (R167). -/
def execAlarmEnableClear (src tag : Byte) (bitmap : BitVec 24) (s : State) : Host.Outcome State Fault Refusal :=
  serve .alarmEnableClear src tag (wordBytes 3 bitmap) (fun x => enableOwner tag (x.recs.enabled &&& ~~~bitmap) x) s

/-! ### Capture records (R170 to R173) -/

/-- The code of a trigger's outcome: TAKEN 0, IGNORED 1, MISSED 2, and the segment where TAKEN.
DESIGN CHOICE (notes/assumptions/9.md). -/
def outcomeItems : TriggerOutcome → List Byte
  | .taken i => item1 0 ++ itemOpt item1 (some i.val)
  | .ignored => item1 1 ++ [0]
  | .missed => item1 2 ++ [0]

/-- REC's part in CAPTURE_TRIGGER (R170). -/
def captureTriggerOwner (s : State) : State × Reply :=
  (captureTrigger .manual s, { result := .ok, body := outcomeItems (triggerOutcome s.recs) })

/-- CAPTURE_TRIGGER (R170). -/
def execCaptureTrigger (src tag : Byte) (s : State) : Host.Outcome State Fault Refusal :=
  serve .captureTrigger src tag [] captureTriggerOwner s

/-- A readout of a frozen segment from a start row (R172, R183): the rows, and the read pointer after them. -/
def readOut (i : Fin 4) (h : Header) (start count : Nat) (s : State) : State × Reply :=
  let g := s.recs.segments[i]
  let next := start + (readRows i g h start count).length
  (s.setRecs { s.recs with readPtr := some { segment := i, record := h.record, row := next } },
    { result := .ok, body := captureBody i g h start count })

/-- A row count argument, 1 to 32 (R172). -/
def rowCount (b : Byte) : Option Nat := keepIf (decide (1 ≤ b.toNat) && decide (b.toNat ≤ 32)) b.toNat

/-- The header of a segment in FROZEN. -/
def frozenRecord (s : State) (i : Fin 4) : Option Header :=
  if s.recs.segments[i].state = .frozen then s.recs.segments[i].header else none

/-- REC's part in READ_CAPTURE (R172). -/
def readCaptureOwner (segment : Byte) (start : BitVec 16) (count : Byte) (s : State) : State × Reply :=
  match segmentArg segment, rowCount count with
  | some i, some n =>
    match frozenRecord s i with
    | none => refuse .wrongState s
    | some h => if h.validRows ≤ start.toNat then refuse .badArg s else readOut i h start.toNat n s
  | _, _ => refuse .badArg s

/-- READ_CAPTURE (R172). -/
def execReadCapture (src tag segment : Byte) (start : BitVec 16) (count : Byte) (s : State) :
    Host.Outcome State Fault Refusal :=
  serve .readCapture src tag ([segment] ++ wordBytes 2 start ++ [count]) (readCaptureOwner segment start count) s

/-- REC's part in READ_CAPTURE_NEXT (R172). -/
def readCaptureNextOwner (count : Byte) (s : State) : State × Reply :=
  match rowCount count with
  | none => refuse .badArg s
  | some n =>
    match s.recs.readPtr with
    | none => refuse .wrongState s
    | some p =>
      match frozenRecord s p.segment with
      | none => refuse .wrongState s
      | some h => readOut p.segment h p.row n s

/-- READ_CAPTURE_NEXT (R172). -/
def execReadCaptureNext (src tag count : Byte) (s : State) : Host.Outcome State Fault Refusal :=
  serve .readCaptureNext src tag [count] (readCaptureNextOwner count) s

/-- A read pointer on a segment is cleared by its release (R172, R173). -/
def releasedPtr (i : Fin 4) (p : Option ReadPtr) : Option ReadPtr := p.filter fun x => decide (x.segment ≠ i)

/-- REC's part in CAPTURE_RELEASE (R173). The source of CAPTURE_RELEASED, which R173 does not name, is the part.
DESIGN CHOICE (notes/assumptions/15.md). -/
def captureReleaseOwner (segment : Byte) (s : State) : State × Reply :=
  match segmentArg segment with
  | none => refuse .badArg s
  | some i =>
    if s.recs.segments[i].state = .frozen then
      let g := if (activeSegment s.recs).isNone then recordingSegment else freeSegment
      let s1 := s.setRecs { s.recs with
        segments := s.recs.segments.set i g, readPtr := releasedPtr i s.recs.readPtr }
      (logEvent .part .captureReleased { tag := some i.val } s1, { result := .ok })
    else refuse .wrongState s

/-- CAPTURE_RELEASE (R173). -/
def execCaptureRelease (src tag segment : Byte) (s : State) : Host.Outcome State Fault Refusal :=
  serve .captureRelease src tag [segment] (captureReleaseOwner segment) s

/-! ### The snapshot (R175) -/

/-- REC's part in SNAPSHOT (R175). -/
def snapshotOwner (s : State) : State × Reply :=
  match s.recs.snapshot with
  | some _ => refuse .alreadyLatched s
  | none => (s.setRecs { s.recs with snapshot := some (takeSnapshot s) }, { result := .ok })

/-- SNAPSHOT (R175). -/
def execSnapshot (src tag : Byte) (s : State) : Host.Outcome State Fault Refusal :=
  serve .snapshot src tag [] snapshotOwner s

/-- REC's part in READ_SNAPSHOT (R175). -/
def readSnapshotOwner (s : State) : State × Reply :=
  match s.recs.snapshot with
  | some x => (s.setRecs { s.recs with snapshot := none }, { result := .ok, body := snapshotBody x false })
  | none => (s, { result := .ok, body := snapshotBody (takeSnapshot s) true })

/-- READ_SNAPSHOT (R175). -/
def execReadSnapshot (src tag : Byte) (s : State) : Host.Outcome State Fault Refusal :=
  serve .readSnapshot src tag [] readSnapshotOwner s

end Sys2Proof.Machine
end

