-- ==== Sys2Proof/Machine/RectifierControl.lean ====
section
/-! DEFINITION. The commands of rectifier control that no requester sends (chapter 3). -/

namespace Sys2Proof.Machine

/-- RECTIFIER_EVALUATION (R53): one presentation of the bus voltage point evaluated, after which LTU's arbiter looks. -/
def execRectifierEvaluation (s : State) : Host.Outcome State Fault Refusal :=
  match nextFor .rectifier s with
  | none => finish s s
  | some pr =>
    let s1 := takeFor .rectifier s
    if s1.img.rect.busPoint = pr.point then
      finish s (arbitrate (rectEvaluate pr.value (presentedCurrent pr s1) s1))
    else finish s s1

/-- HELD_EVALUATION (R59): 1 ms after the loss of the point or the evaluation before, while the point is lost. -/
def execHeldEvaluation (s : State) : Host.Outcome State Fault Refusal :=
  match s.rct.held with
  | none => finish s s
  | some t0 => if busLost s then finish s (heldEvaluate (s.reach (t0 + 1000))) else finish s s

/-- BUS_LOSS_TIMEOUT (R59): 100 ms without the bus voltage trip the group. -/
def execBusLossTimeout (s : State) : Host.Outcome State Fault Refusal :=
  match s.rct.busLoss with
  | none => finish s s
  | some t0 => finish s (rectTrips .busMeas (s.reach (t0 + 100000)))

/-- PHASE_BACK_TIMEOUT (R64): t_pb_max reached. -/
def execPhaseBackTimeout (s : State) : Host.Outcome State Fault Refusal :=
  match s.rct.pbTimer with
  | none => finish s s
  | some t0 => finish s (phaseBackExpires (s.reach (t0 + ms s.img.rect.tPbMax)))

/-- The gate unit of an address in the in-use rectifier table (R56). -/
def gateOfAddress (m : Image) (a : Byte) : Option GateUnit :=
  if a = m.rect.gateA then some .a else if a = m.rect.gateB then some .b else none

/-- The sync report and the misfire count of a GATE_STATUS; none where the frame is of the wrong form (R56, R182). -/
def gateReport (f : RingFrame) : Option (Bool × Nat) :=
  match f.payload with
  | [sync, misfires] =>
    if f.kind = kindGateStatus ∧ sync.toNat ≤ 1 then some (decide (sync = 1), misfires.toNat) else none
  | _ => none

/-- A gate unit's record as an accepted status leaves it (R56, R57): a SYNC restarts a running sync timer. -/
def acceptGate (now : Nat) (sync : Bool) (g : Gate) : Gate :=
  { silence := some now, silent := false, sync := if sync then g.sync.map fun _ => now else g.sync, report := some sync }

/-- The misfire history with one more entry; of 64 entries the oldest leaves first (R58). -/
def appendMisfire (now count : Nat) (l : List (Nat × Nat)) : List (Nat × Nat) := l.drop (l.length - 63) ++ [(now, count)]

/-- A misfire report of 1 or more (R58): appended, and while firing a sum of 3 or more trips the group. -/
def misfired (count : Nat) (s : State) : State :=
  if count = 0 then s
  else
    let s1 := s.setRct { s.rct with misfires := appendMisfire s.now count s.rct.misfires }
    if firing s1.rct = true ∧ 3 ≤ misfireSum s1.rct.misfires then rectTrips .misfire s1 else s1

/-- GATE_STATUS (R56): an accepted status of one of the two units. -/
def execGateStatus (frame : RingFrame) (s : State) : Host.Outcome State Fault Refusal :=
  let s1 := s.setRct { s.rct with frames := s.rct.frames.erase frame }
  match gateOfAddress s1.img frame.src, gateReport frame with
  | some u, some x =>
    let s2 := s1.setRct (s1.rct.setGate u (acceptGate s1.now x.1 (s1.rct.gate u)))
    finish s (misfired x.2 (noteGateFaults s1.rct s2))
  | _, _ => finish s s1

/-- GATE_SILENCE_TIMEOUT (R56): 5 ms without a status put the unit in gate fault. -/
def execGateSilenceTimeout (gate : GateUnit) (s : State) : Host.Outcome State Fault Refusal :=
  match (s.rct.gate gate).silence with
  | none => finish s s
  | some t0 =>
    let s1 := s.reach (t0 + 5000)
    finish s (noteGateFaults s1.rct (s1.setRct (s1.rct.setGate gate { s1.rct.gate gate with silence := none, silent := true })))

/-- SYNC_TIMEOUT (R57): 20 ms without a SYNC report trip the firing group. -/
def execSyncTimeout (gate : GateUnit) (s : State) : Host.Outcome State Fault Refusal :=
  match (s.rct.gate gate).sync with
  | none => finish s s
  | some t0 => finish s (rectTrips .gateSync (s.reach (t0 + 20000)))

/-- MISFIRE_AGE_EXPIRY (R58): the oldest entry's age exceeds 100 ms, and it is removed. -/
def execMisfireAgeExpiry (s : State) : Host.Outcome State Fault Refusal :=
  match s.rct.misfires with
  | [] => finish s s
  | e :: rest =>
    let s1 := s.reach (e.1 + 100001)
    finish s (s1.setRct { s1.rct with misfires := rest })

end Sys2Proof.Machine
end

