-- ==== Sys2Proof/Machine/Ring.lean ====
section
/-! DEFINITION. The commands of the ring port (chapter 7). -/

namespace Sys2Proof.Machine

/-- The frame that received bytes spell, where they are a good frame (R135, R182): a length of at most 250 that the
bytes agree with, and a good check. -/
def goodFrame (bytes : List Byte) : Option RingFrame :=
  match bytes with
  | dst :: src :: kind :: len :: rest =>
    let f : RingFrame := { dst := dst, src := src, kind := kind, payload := rest.take len.toNat }
    if len.toNat ≤ 250 ∧ rest.length = len.toNat + 2 ∧ frameBytes f = bytes then some f else none
  | _ => none

/-- A bad frame counted (R135, R138): the tenth of a window makes RING_DEGRADED active. -/
def badFrame (s : State) : State :=
  let n := satAdd top16 s.rp.windowBad 1
  let s1 := s.setRp { s.rp with windowBad := n, bad := satAdd top32 s.rp.bad 1, degraded := s.rp.degraded || decide (10 ≤ n) }
  if s.rp.degraded = false ∧ 10 ≤ n then logEvent .ring .ringDegraded { number := some n } s1 else s1

/-- A taken or copied frame handed to its owner (R137). -/
def handOver (f : RingFrame) (s : State) : State :=
  if f.kind = kindSample then s.setMsu { s.msu with frames := s.msu.frames ++ [f] }
  else if f.kind = kindBreakerStatus then s.setFsq { s.fsq with frames := s.fsq.frames ++ [f] }
  else if f.kind = kindGateStatus then s.setRct { s.rct with frames := s.rct.frames ++ [f] }
  else if f.kind = kindRequest then s.setMgt { s.mgt with requests := s.mgt.requests ++ [f] }
  else s.setRp { s.rp with unexpected := satAdd top32 s.rp.unexpected 1 }

/-- A good frame disposed of by the first matching row (R136). -/
def dispose (f : RingFrame) (s : State) : State :=
  if f.dst = 0 ∨ f.src = 0 ∨ f.src = 255 then s.setRp { s.rp with addressErr := satAdd top32 s.rp.addressErr 1 }
  else if f.src = s.rp.own then s.setRp { s.rp with stripped := satAdd top32 s.rp.stripped 1 }
  else if f.dst = s.rp.own then handOver f (s.setRp { s.rp with taken := satAdd top32 s.rp.taken 1 })
  else if f.kind = kindSample ∧ mappedHead s.img f.src = true then forwardFrame f (handOver f s)
  else forwardFrame f s

/-- RECEPTION (R135): the frame judged at the end of its reception, and disposed of or counted bad. -/
def execReception (bytes : List Byte) (s : State) : Host.Outcome State Fault Refusal :=
  match goodFrame bytes with
  | some f => finish s (dispose f (s.setRp { s.rp with good := satAdd top32 s.rp.good 1 }))
  | none => finish s (badFrame s)

/-- TRANSMISSION_END (R144): the arbiter chooses the next frame; an idle output has no transmission to end. -/
def execTransmissionEnd (s : State) : Host.Outcome State Fault Refusal :=
  match s.rp.sending with
  | some _ => finish s (s.setRp (choose s.rp))
  | none => finish s s

/-- RING_WINDOW_END (R138): the window's counts become those of the latest completed window, and RING_DEGRADED ends with
a window of fewer than 10 bad frames. -/
def execRingWindowEnd (s : State) : Host.Outcome State Fault Refusal :=
  let s1 := s.reach (s.rp.windowStart + 1000000)
  let r := s1.rp
  let recovers := r.degraded && decide (r.windowBad < 10)
  let s2 := s1.setRp { r with
    lastBad := r.windowBad, lastOver := r.windowOver, windowBad := 0, windowOver := 0
    windowStart := r.windowStart + 1000000, degraded := r.degraded && !recovers }
  finish s (if recovers then logEvent .ring .ringRecovered {} s2 else s2)

end Sys2Proof.Machine
end

