-- ==== Sys2Proof/Machine/Sequencer.lean ====
section
/-! DEFINITION. The commands of the feeder sequencer and the breaker protocol that no requester sends (chapter 4). -/

namespace Sys2Proof.Machine

/-- BREAKER_STATUS (R73): a status of a fitted slot's unit accepted and acted on, after which LTU's arbiter looks. -/
def execBreakerStatus (frame : RingFrame) (s : State) : Host.Outcome State Fault Refusal :=
  let s1 := s.setFsq { s.fsq with frames := s.fsq.frames.erase frame }
  match slotOfAddress s1.img frame.src, statusOf frame with
  | some k, some r => finish s (arbitrate (acceptedStatus k r s1))
  | _, _ => finish s s1

/-- SLOT_FRESHNESS_TIMEOUT (R74): 20 ms without a status set position_unknown. -/
def execSlotFreshnessTimeout (slot : Fin 9) (s : State) : Host.Outcome State Fault Refusal :=
  match (s.slot slot).freshness with
  | none => finish s s
  | some t0 =>
    let s1 := s.reach (t0 + 20000)
    finish s (logEvent (.slot slot) .statusLost {}
      (s1.setSlot slot { s1.slot slot with freshness := none, unknown := true }))

/-- NO_STATUS_TIMEOUT (R74): 100 ms have passed since the cold reset. -/
def execNoStatusTimeout (s : State) : Host.Outcome State Fault Refusal :=
  let s1 := s.reach 100000
  finish s (s1.setFsq { s1.fsq with noStatusDue := true })

/-- COMMAND_LOST (R76): the echo timer of an outstanding command reaches 10 ms. -/
def execCommandLost (slot : Fin 9) (group : CmdGroup) (s : State) : Host.Outcome State Fault Refusal :=
  match outstanding (s.slot slot) group with
  | none => finish s s
  | some c =>
    match c.echo with
    | none => finish s s
    | some t0 => finish s (failureBranch slot c.cmd c.tag.toNat (loseCommand slot c (s.reach (t0 + 10000))))

/-- TRIP_REPEAT (R77): an outstanding TRIP placed again 1 ms after it was last placed. -/
def execTripRepeat (slot : Fin 9) (s : State) : Host.Outcome State Fault Refusal :=
  match (s.slot slot).breakerCmd with
  | none => finish s s
  | some c => if c.cmd = .trip then finish s (repeatTrip slot c (s.reach (c.sentAt + 1000))) else finish s s

/-- CLOSE_TIMEOUT (R80): t_close reached in CLOSING. -/
def execCloseTimeout (feeder : Fin 8) (s : State) : Host.Outcome State Fault Refusal :=
  finish s (stateTimeout feeder .closing s)

/-- OPEN_WATCH_EXPIRY (R80): t_bf reached with the slot reporting anything but OPEN. -/
def execOpenWatchExpiry (slot : Fin 8) (s : State) : Host.Outcome State Fault Refusal :=
  let k := slot.castSucc
  match (s.slot k).openWatch with
  | none => finish s s
  | some t0 =>
    let s1 := s.reach (t0 + ms s.img.breakers[k].tBf)
    finish s (if position s1 k = some .opened then s1.setSlot k { s1.slot k with openWatch := none }
      else openWatchFails k s1)

/-- BREAKER_FAIL (R84): t_bf reached in TRIPPING. -/
def execBreakerFail (feeder : Fin 8) (s : State) : Host.Outcome State Fault Refusal :=
  finish s (stateTimeout feeder .tripping s)

/-- OPENING_TIMEOUT (R86): t_bf reached in OPENING. -/
def execOpeningTimeout (feeder : Fin 8) (s : State) : Host.Outcome State Fault Refusal :=
  finish s (stateTimeout feeder .opening s)

/-- DEAD_TIME_END (R87): the dead time elapsed, after which LTU's arbiter looks. -/
def execDeadTimeEnd (feeder : Fin 8) (s : State) : Host.Outcome State Fault Refusal :=
  finish s (arbitrate (stateTimeout feeder .deadTime s))

/-- REMOTE_TIMEOUT (R90): t_remote reached in REMOTE_WAIT. -/
def execRemoteTimeout (feeder : Fin 8) (s : State) : Host.Outcome State Fault Refusal :=
  finish s (stateTimeout feeder .remoteWait s)

/-- RECLAIM_END (R85): the reclaim timer reaches t_reclaim, in CLOSED or in an UNRESOLVED that a warm reset took from
CLOSED (R92). -/
def execReclaimEnd (feeder : Fin 8) (s : State) : Host.Outcome State Fault Refusal :=
  match (s.feeder feeder).reclaim with
  | none => finish s s
  | some t0 => finish s (reclaimExpires feeder (s.reach (t0 + secs s.img.feeders[feeder].tReclaim)))

/-- GROUP_CLOSE_TIMEOUT (R95): t_close of slot 8 reached in CLOSING; RCT is told of the failed close. With no CLOSE
outstanding, a switch having abandoned it (R97), CLOSE_FAIL carries no tag and OPEN goes to the address in use.
DESIGN CHOICE (notes/assumptions/37.md). -/
def execGroupCloseTimeout (s : State) : Host.Outcome State Fault Refusal :=
  match s.fsq.groupState, s.fsq.groupTimer with
  | .closing, some t0 =>
    let s1 := s.reach (t0 + ms s.img.breakers[(8 : Fin 9)].tClose)
    finish s (rectCloseFailed (groupCloseFails (closeTag s1 8) s1))
  | _, _ => finish s s

/-- GROUP_OPEN_WATCH_EXPIRY (R95): t_bf reached with slot 8 reporting anything but OPEN. -/
def execGroupOpenWatchExpiry (s : State) : Host.Outcome State Fault Refusal :=
  match (s.slot 8).openWatch with
  | none => finish s s
  | some t0 =>
    let s1 := s.reach (t0 + ms s.img.breakers[(8 : Fin 9)].tBf)
    finish s (if position s1 8 = some .opened then s1.setSlot 8 { s1.slot 8 with openWatch := none }
      else groupWatchFails s1)

/-- GROUP_TRIP_TIMEOUT (R95): t_bf reached in TRIPPING of slot 8. -/
def execGroupTripTimeout (s : State) : Host.Outcome State Fault Refusal :=
  match s.fsq.groupState, s.fsq.groupTimer with
  | .tripping, some t0 => finish s (groupFails (s.reach (t0 + ms s.img.breakers[(8 : Fin 9)].tBf)))
  | _, _ => finish s s

/-- A demand of FPR as a trip record (R81). -/
def demandRecord (d : TripDemand) : TripRecord :=
  { causes := d.causes, current := d.current, group := d.group, time := d.time, timeSet := d.timeSet }

/-- TRIP_DEMAND_TAKEN (R81): the demand in hand is cleared, and acted on in CLOSED and CLOSING. -/
def execTripDemandTaken (feeder : Fin 8) (s : State) : Host.Outcome State Fault Refusal :=
  match (s.prot feeder).demand with
  | none => finish s s
  | some d =>
    let s1 := s.setProt feeder { s.prot feeder with demand := none }
    finish s (if demandable (s1.feeder feeder).state then tripFeeder feeder (demandRecord d) s1 else s1)

/-- An intertrip as a trip record (R81). -/
def intertripRecord (s : State) (f : Fin 8) : TripRecord :=
  { causes := [.intertrip], current := pointValue s s.img.feeders[f].currentPoint, group := activeGroup s f,
    time := s.mgt.time, timeSet := s.mgt.timeSet }

/-- INTERTRIP_DEMAND_TAKEN (R129, R81): one presented intertrip demand taken, and acted on in CLOSED and CLOSING. -/
def execIntertripDemandTaken (feeder : Fin 8) (s : State) : Host.Outcome State Fault Refusal :=
  if s.fsq.intertrips.contains feeder then
    let s1 := s.setFsq { s.fsq with intertrips := s.fsq.intertrips.erase feeder }
    finish s (if demandable (s1.feeder feeder).state then tripFeeder feeder (intertripRecord s1 feeder) s1 else s1)
  else finish s s

end Sys2Proof.Machine
end

