-- ==== Sys2Proof/Machine/Settings.lean ====
section
/-! DEFINITION. The commands of the settings store: the ends of its writes, and the staging, commit and trial requests
(chapter 8). -/

namespace Sys2Proof.Machine

/-! ### The ends of writes -/

/-- A commit fails for a reason (R153): the stored image stays INVALID, and the state it came from returns. -/
def commitFails (b : BaseSettings) (reason : Reason) (s : State) : State :=
  let s1 := s.setSst { s.sst with storedValid := false, settings := .base b, lastCommit := some (some reason) }
  nextWrite (logEvent .settings .commitFailed { causes := [.reason reason] } (pulse .commitFailed s1))

/-- A verified commit whose change checks pass (R153): the candidate becomes stored, reference and in-use image. COMMIT_DONE
stands before the events of the switch. DESIGN CHOICE (notes/assumptions/15.md). -/
def commitDone (m : Image) (s : State) : State :=
  let s1 := s.setSst { s.sst with
    stored := m, storedValid := true, reference := m, refDefault := false, staging := none
    settings := .base .stored, lastCommit := some none }
  nextWrite (switchImage m (logEvent .settings .commitDone {} s1))

/-- COMMIT_COMPLETION (R153): the image write in progress completes, no less than 150 ms after it began. A verified
write holds the staging image, with or without a good mark. -/
def execCommitCompletion (verified : Bool) (s : State) : Host.Outcome State Fault Refusal :=
  match s.sst.settings, s.sst.arbiter, s.sst.writeStart, s.sst.staging with
  | .committing b, .image, some t0, some m =>
    let s1 := s.reach (t0 + 150000)
    if verified then
      match changeChecks s1 m with
      | none => finish s (commitDone m s1)
      | some x => finish s (commitFails b x.reason (s1.setSst { s1.sst with stored := m }))
    else finish s (commitFails b .verify s1)
  | _, _, _, _ => finish s s

/-- The read-back of a flags write does not match (R158): one further write follows the first failure. -/
def flagsWriteFails (s : State) : State :=
  let s1 := logEvent .settings .flagsWriteFailed {} s
  if s1.sst.flagsRetry then s1.setSst { s1.sst with flagsRetry := false }
  else s1.setSst { s1.sst with flagsRetry := true, flagsPending := true }

/-- FLAGS_WRITE_END (R158): the flags write in progress ends. -/
def execFlagsWriteEnd (matched : Bool) (s : State) : Host.Outcome State Fault Refusal :=
  match s.sst.arbiter with
  | .flags =>
    finish s (nextWrite
      (if matched then s.setSst { s.sst with flagsValid := true, flagsRetry := false } else flagsWriteFails s))
  | .idle | .image => finish s s

/-! ### Staging (R149, R150) -/

/-- The answer of a request that names an entry: the entry's bytes, and further items. -/
def entryReply (t : Table) (fields : List Int) (more : List Byte) : Reply :=
  { result := .ok, body := entryBytes t fields ++ more }

/-- SST's part in STAGE_WRITE (R149). -/
def stageWriteOwner (table entry : Byte) (fields : List (BitVec 32)) (s : State) : State × Reply :=
  match entryArg table entry with
  | none => refuse .badArg s
  | some (t, n) =>
    match writeEntry (s.sst.staging.getD s.img) t n (fields.map (·.toInt)) with
    | none => refuse .badArg s
    | some m =>
      let s1 := s.setSst { s.sst with staging := some m }
      (s1, entryReply t ((entryFields m t n).getD []) (item2 (entriesDiffering m s1.img : Nat)))

/-- The argument bytes of a STAGE_WRITE (11.3). -/
def stageArgs (table entry : Byte) (fields : List (BitVec 32)) : List Byte :=
  table :: entry :: fields.flatMap (wordBytes 4)

/-- STAGE_WRITE (R149); fields that do not match the table in number are BAD_REQUEST before anything else (11.3,
R176). -/
def execStageWrite (src tag table entry : Byte) (fields : List (BitVec 32)) (s : State) :
    Host.Outcome State Fault Refusal :=
  if stageWriteLengthOk table (4 * fields.length) then
    serve .stageWrite src tag (stageArgs table entry fields) (stageWriteOwner table entry fields) s
  else
    finish s (respond src tag (codeOf .stageWrite) { result := .badRequest }
      (takeRequest src tag (codeOf .stageWrite) (stageArgs table entry fields) s))

/-- SST's answer to STAGE_READ (R150). -/
def stageReadReply (table entry : Byte) (s : State) : Reply :=
  match entryArg table entry with
  | none => { result := .badArg }
  | some (t, n) =>
    match s.sst.staging with
    | none => { result := .wrongState }
    | some m =>
      entryReply t ((entryFields m t n).getD []) (itemFlag (decide (entryFields m t n ≠ entryFields s.img t n)))

/-- STAGE_READ (R150). -/
def execStageRead (src tag table entry : Byte) (s : State) : Host.Outcome State Fault Refusal :=
  serve .stageRead src tag [table, entry] (readOnly (stageReadReply table entry)) s

/-- STAGE_DISCARD (R150). -/
def execStageDiscard (src tag : Byte) (s : State) : Host.Outcome State Fault Refusal :=
  serve .stageDiscard src tag [] (fun x => (x.setSst { x.sst with staging := none }, { result := .ok })) s

/-- SST's answer to READ_SETTINGS (R150), with the stored image's mark valid 1 or INVALID 0.
DESIGN CHOICE (notes/assumptions/9.md). -/
def readSettingsReply (table entry image : Byte) (s : State) : Reply :=
  match entryArg table entry with
  | none => { result := .badArg }
  | some (t, n) =>
    if image = 0 then entryReply t ((entryFields s.img t n).getD []) []
    else if image = 1 then entryReply t ((entryFields s.sst.stored t n).getD []) (itemFlag s.sst.storedValid)
    else { result := .badArg }

/-- READ_SETTINGS (R150). -/
def execReadSettings (src tag table entry image : Byte) (s : State) : Host.Outcome State Fault Refusal :=
  serve .readSettings src tag [table, entry, image] (readOnly (readSettingsReply table entry image)) s

/-! ### Commit and trials (R153, R154) -/

/-- The image write asked of the arbiter (R157). -/
def requestImageWrite (s : State) : State :=
  match s.sst.arbiter with
  | .idle => beginImageWrite s
  | .image | .flags => s.setSst { s.sst with imageWaiting := true }

/-- The base of a settings state. -/
def baseOf : SettingsState → BaseSettings
  | .base b => b
  | .committing b => b

/-- SST's part in COMMIT, past the gate (R153). The body of the OK answer is the settings state's code.
DESIGN CHOICE (notes/assumptions/14.md). -/
def commitOwner (tag : Byte) (s : State) : State × Reply :=
  match s.sst.staging with
  | none => refuse .wrongState s
  | some m =>
    match validate s m with
    | some x => (s, refusedReply x)
    | none =>
      let s1 := s.setSst { s.sst with settings := .committing (baseOf s.sst.settings) }
      let s2 := requestImageWrite (logEvent .settings .commitStart { tag := some tag.toNat } s1)
      (s2, { result := .ok, body := item1 (settingsCode s2.sst.settings) })

/-- COMMIT (R153). -/
def execCommit (src tag : Byte) (s : State) : Host.Outcome State Fault Refusal :=
  serve .commit src tag [] (commitOwner tag) s

/-- SST's part in APPLY_TRIAL, past the gate (R154). TRIAL_APPLIED stands before the events of the switch.
DESIGN CHOICE (notes/assumptions/15.md). -/
def applyTrialOwner (tag : Byte) (s : State) : State × Reply :=
  match s.sst.staging with
  | none => refuse .wrongState s
  | some m =>
    match validate s m with
    | some x => (s, refusedReply x)
    | none =>
      let s1 := s.setSst { s.sst with settings := .base .trial }
      (switchImage m (logEvent .settings .trialApplied { tag := some tag.toNat } s1), { result := .ok })

/-- APPLY_TRIAL (R154). -/
def execApplyTrial (src tag : Byte) (s : State) : Host.Outcome State Fault Refusal :=
  serve .applyTrial src tag [] (applyTrialOwner tag) s

/-- SST's part in REVERT_TRIAL, past the gate (R154). -/
def revertTrialOwner (s : State) : State × Reply :=
  match validate s s.sst.reference with
  | some x => (s, refusedReply x)
  | none => (revertImage .request s, { result := .ok })

/-- REVERT_TRIAL (R154). -/
def execRevertTrial (src tag : Byte) (s : State) : Host.Outcome State Fault Refusal :=
  serve .revertTrial src tag [] revertTrialOwner s

end Sys2Proof.Machine
end

