-- ==== Sys2Proof/Machine/TestCircuit.lean ====
section
/-! DEFINITION. The commands of the line test unit that no requester sends (chapter 5). -/

namespace Sys2Proof.Machine

/-- TEST_MEASUREMENT_PRESENTATION (R108): one presentation taken; in MEASURING it is summed, and the sixteenth position
completes the measurement (R109). -/
def execTestMeasurementPresentation (s : State) : Host.Outcome State Fault Refusal :=
  match nextFor .lineTest s with
  | none => finish s s
  | some pr => finish s (measure pr (takeFor .lineTest s))

/-- SETTLE_END (R107): t_settle reached in SETTLING. -/
def execSettleEnd (s : State) : Host.Outcome State Fault Refusal :=
  match s.ltu.circuit, s.ltu.record with
  | .settling, some r =>
    match r.stage with
    | some t0 => finish s (enterMeasuring r (s.reach (t0 + ms s.img.test.tSettle)))
    | none => finish s s
  | _, _ => finish s s

/-- The fault of a stage limit (R115). -/
def stageFault : CircuitState → Option CircuitFault
  | .connecting => some .noOn
  | .disconnecting => some .noOff
  | .idle | .settling | .measuring | .outOfService => none

/-- CONTACTOR_TIMEOUT (R115): the 50 ms stage limit of CONNECTING or DISCONNECTING. -/
def execContactorTimeout (s : State) : Host.Outcome State Fault Refusal :=
  match stageFault s.ltu.circuit, s.ltu.record with
  | some fault, some r =>
    match r.stage with
    | some t0 => finish s (outOfService r.slot fault (s.reach (t0 + 50000)))
    | none => finish s s
  | _, _ => finish s s

/-- STRAY_CONTACTOR_TIMEOUT (R114): a stray contactor's 50 ms limit, in any state but OUT_OF_SERVICE. -/
def execStrayContactorTimeout (slot : Fin 8) (s : State) : Host.Outcome State Fault Refusal :=
  match s.ltu.strays.find? fun e => decide (e.1 = slot) with
  | none => finish s s
  | some e =>
    if s.ltu.circuit = .outOfService then finish s s
    else finish s (outOfService slot .stray (s.reach (e.2 + 50000)))

/-- Rows are written at a presentation of a point (R169): it is the pacing point, and is neither STALE nor UNMAPPED. -/
def rowWritten (s : State) (p : Fin 32) : Bool :=
  decide (pacingPoint s.img = p) && decide ((s.point p).state ≠ .stale) && decide ((s.point p).state ≠ .unmapped)

/-- CAPTURE_ROW (R169): the oldest presentation to REC taken; one of the pacing point is written as a row, and one of
another channel writes none. -/
def execCaptureRow (s : State) : Host.Outcome State Fault Refusal :=
  match nextFor .capture s with
  | none => finish s s
  | some pr =>
    let s1 := takeFor .capture s
    if rowWritten s1 pr.point then finish s (writeRow (captureRowOf s1 pr) s1) else finish s s1

end Sys2Proof.Machine
end

