-- ==== Sys2Proof/Machine/Dispatch.lean ====
section
/-! DEFINITION. The dispatch: one arm per command of the table, one direct call of its meaning. -/

namespace Sys2Proof.Machine

/-- The effect of a command on everything but the queue. -/
def exec (i : Instr) (s : State) : Host.Outcome State Fault Refusal :=
  match i with
  | .coldReset straps key imageCheck flagsCheck => Sys2Proof.Machine.execColdReset straps key imageCheck flagsCheck s
  | .settingsKey pos => Sys2Proof.Machine.execSettingsKey pos s
  | .reception bytes => Sys2Proof.Machine.execReception bytes s
  | .transmissionEnd => Sys2Proof.Machine.execTransmissionEnd s
  | .ringWindowEnd => Sys2Proof.Machine.execRingWindowEnd s
  | .sampleFrame frame => Sys2Proof.Machine.execSampleFrame frame s
  | .freshnessTimeout point => Sys2Proof.Machine.execFreshnessTimeout point s
  | .startTimeout => Sys2Proof.Machine.execStartTimeout s
  | .feederEvaluation feeder => Sys2Proof.Machine.execFeederEvaluation feeder s
  | .lineVoltagePresentation feeder => Sys2Proof.Machine.execLineVoltagePresentation feeder s
  | .undervoltageTimerExpiry feeder => Sys2Proof.Machine.execUndervoltageTimerExpiry feeder s
  | .lossTimerExpiry feeder => Sys2Proof.Machine.execLossTimerExpiry feeder s
  | .rectifierEvaluation => Sys2Proof.Machine.execRectifierEvaluation s
  | .heldEvaluation => Sys2Proof.Machine.execHeldEvaluation s
  | .busLossTimeout => Sys2Proof.Machine.execBusLossTimeout s
  | .phaseBackTimeout => Sys2Proof.Machine.execPhaseBackTimeout s
  | .gateStatus frame => Sys2Proof.Machine.execGateStatus frame s
  | .gateSilenceTimeout gate => Sys2Proof.Machine.execGateSilenceTimeout gate s
  | .syncTimeout gate => Sys2Proof.Machine.execSyncTimeout gate s
  | .misfireAgeExpiry => Sys2Proof.Machine.execMisfireAgeExpiry s
  | .breakerStatus frame => Sys2Proof.Machine.execBreakerStatus frame s
  | .slotFreshnessTimeout slot => Sys2Proof.Machine.execSlotFreshnessTimeout slot s
  | .noStatusTimeout => Sys2Proof.Machine.execNoStatusTimeout s
  | .commandLost slot group => Sys2Proof.Machine.execCommandLost slot group s
  | .tripRepeat slot => Sys2Proof.Machine.execTripRepeat slot s
  | .closeTimeout feeder => Sys2Proof.Machine.execCloseTimeout feeder s
  | .openWatchExpiry slot => Sys2Proof.Machine.execOpenWatchExpiry slot s
  | .breakerFail feeder => Sys2Proof.Machine.execBreakerFail feeder s
  | .openingTimeout feeder => Sys2Proof.Machine.execOpeningTimeout feeder s
  | .deadTimeEnd feeder => Sys2Proof.Machine.execDeadTimeEnd feeder s
  | .remoteTimeout feeder => Sys2Proof.Machine.execRemoteTimeout feeder s
  | .reclaimEnd feeder => Sys2Proof.Machine.execReclaimEnd feeder s
  | .groupCloseTimeout => Sys2Proof.Machine.execGroupCloseTimeout s
  | .groupOpenWatchExpiry => Sys2Proof.Machine.execGroupOpenWatchExpiry s
  | .groupTripTimeout => Sys2Proof.Machine.execGroupTripTimeout s
  | .tripDemandTaken feeder => Sys2Proof.Machine.execTripDemandTaken feeder s
  | .intertripDemandTaken feeder => Sys2Proof.Machine.execIntertripDemandTaken feeder s
  | .testMeasurementPresentation => Sys2Proof.Machine.execTestMeasurementPresentation s
  | .settleEnd => Sys2Proof.Machine.execSettleEnd s
  | .contactorTimeout => Sys2Proof.Machine.execContactorTimeout s
  | .strayContactorTimeout slot => Sys2Proof.Machine.execStrayContactorTimeout slot s
  | .captureRow => Sys2Proof.Machine.execCaptureRow s
  | .pilotFrame port bytes => Sys2Proof.Machine.execPilotFrame port bytes s
  | .pilotFrameSend port => Sys2Proof.Machine.execPilotFrameSend port s
  | .pilotSilenceTimeout port => Sys2Proof.Machine.execPilotSilenceTimeout port s
  | .graceTimerExpiry port => Sys2Proof.Machine.execGraceTimerExpiry port s
  | .transferTripHoldEnd entry => Sys2Proof.Machine.execTransferTripHoldEnd entry s
  | .commitCompletion verified => Sys2Proof.Machine.execCommitCompletion verified s
  | .flagsWriteEnd matched => Sys2Proof.Machine.execFlagsWriteEnd matched s
  | .stationReport => Sys2Proof.Machine.execStationReport s
  | .malformedRequest src payload => Sys2Proof.Machine.execMalformedRequest src payload s
  | .badRequest src tag code args => Sys2Proof.Machine.execBadRequest src tag code args s
  | .identify src tag => Sys2Proof.Machine.execIdentify src tag s
  | .readStatus src tag part => Sys2Proof.Machine.execReadStatus src tag part s
  | .timeSet src tag count => Sys2Proof.Machine.execTimeSet src tag count s
  | .restart src tag => Sys2Proof.Machine.execRestart src tag s
  | .feederClose src tag feeder => Sys2Proof.Machine.execFeederClose src tag feeder s
  | .feederOpen src tag feeder => Sys2Proof.Machine.execFeederOpen src tag feeder s
  | .resetLockout src tag feeder => Sys2Proof.Machine.execResetLockout src tag feeder s
  | .resetBf src tag feeder => Sys2Proof.Machine.execResetBf src tag feeder s
  | .maskSet src tag bitmap => Sys2Proof.Machine.execMaskSet src tag bitmap s
  | .maskClear src tag bitmap => Sys2Proof.Machine.execMaskClear src tag bitmap s
  | .workPermitSet src tag feeder => Sys2Proof.Machine.execWorkPermitSet src tag feeder s
  | .workPermitClear src tag feeder => Sys2Proof.Machine.execWorkPermitClear src tag feeder s
  | .readFeeder src tag number => Sys2Proof.Machine.execReadFeeder src tag number s
  | .groupSelect src tag feeder selection => Sys2Proof.Machine.execGroupSelect src tag feeder selection s
  | .rectStart src tag => Sys2Proof.Machine.execRectStart src tag s
  | .rectStop src tag => Sys2Proof.Machine.execRectStop src tag s
  | .rectReset src tag => Sys2Proof.Machine.execRectReset src tag s
  | .testCircuitReset src tag => Sys2Proof.Machine.execTestCircuitReset src tag s
  | .stageWrite src tag table entry fields => Sys2Proof.Machine.execStageWrite src tag table entry fields s
  | .stageRead src tag table entry => Sys2Proof.Machine.execStageRead src tag table entry s
  | .stageDiscard src tag => Sys2Proof.Machine.execStageDiscard src tag s
  | .readSettings src tag table entry image => Sys2Proof.Machine.execReadSettings src tag table entry image s
  | .commit src tag => Sys2Proof.Machine.execCommit src tag s
  | .applyTrial src tag => Sys2Proof.Machine.execApplyTrial src tag s
  | .revertTrial src tag => Sys2Proof.Machine.execRevertTrial src tag s
  | .readEvents src tag first max => Sys2Proof.Machine.execReadEvents src tag first max s
  | .readAlarms src tag => Sys2Proof.Machine.execReadAlarms src tag s
  | .clearAlarms src tag bitmap => Sys2Proof.Machine.execClearAlarms src tag bitmap s
  | .alarmEnableSet src tag bitmap => Sys2Proof.Machine.execAlarmEnableSet src tag bitmap s
  | .alarmEnableClear src tag bitmap => Sys2Proof.Machine.execAlarmEnableClear src tag bitmap s
  | .captureTrigger src tag => Sys2Proof.Machine.execCaptureTrigger src tag s
  | .readCapture src tag segment start count => Sys2Proof.Machine.execReadCapture src tag segment start count s
  | .readCaptureNext src tag count => Sys2Proof.Machine.execReadCaptureNext src tag count s
  | .captureRelease src tag segment => Sys2Proof.Machine.execCaptureRelease src tag segment s
  | .snapshot src tag => Sys2Proof.Machine.execSnapshot src tag s
  | .readSnapshot src tag => Sys2Proof.Machine.execReadSnapshot src tag s

end Sys2Proof.Machine
end

