-- ==== Sys2Proof/Machine/Step.lean ====
section
/-! DEFINITION. One step: the command at the front of the queue, or one microsecond when no command waits. -/

namespace Sys2Proof.Machine

/-- One microsecond passes with no command: the elapsed time and the station time count on (R165). What a timer's
limit does is a command of the table, so nothing else happens here. DESIGN CHOICE (notes/assumptions/5.md). -/
def idleTick (s : State) : State := s.reach (s.now + 1)

/-- The step: the command at the front of the queue runs with the queue's rest; on an empty queue the part idles
(notes/assumptions/5.md). -/
def step (s : State) : Host.Outcome State Fault Refusal :=
  match s.pending with
  | [] => .next (idleTick s)
  | c :: rest => exec c { s with pending := rest }

/-- The command that a word of the table spells, put at the front of the queue; the state unchanged where the word
spells none. -/
def State.withFetchWord (s : State) (nbits w : Nat) : State :=
  match decodeTableWord nbits w with
  | some c => { s with pending := c :: s.pending }
  | none => s

end Sys2Proof.Machine
end

