-- ==== Sys2Proof/Safety.lean ====
section
/-! DEFINITION. What the statements speak of: the invariants of the part, the request that a command carries, and the
reading of an answer and of an event in the state after a command. -/

namespace Sys2Proof.Machine

/-! ### Invariants -/

/-- Every alarm whose condition is active is latched (R165): a latch is set when its condition becomes active and is
cleared only while it is inactive (R166). -/
def AlarmsLatched (s : State) : Prop := activeMask s &&& ~~~s.recs.latched = 0

/-- The CONTROL queue (R141): breaker commands, at most 14, and setpoints, at most one for each gate unit, which is its
address (notes/assumptions/35.md), at most 16 frames in all. -/
def ControlKept (q : List RingFrame) : Prop :=
  (∀ f ∈ q, f.kind = kindBreakerCommand ∨ f.kind = kindGateSetpoint) ∧
  (q.filter fun f => decide (f.kind = kindBreakerCommand)).length ≤ 14 ∧ q.length ≤ 16 ∧
  ((q.filter fun f => decide (f.kind = kindGateSetpoint)).map (·.dst)).Nodup

/-- The ring output (R139 to R144): it is idle only while no frame is queued, and the four queues keep their limits, the
TRIP queue with one TRIP for each slot. -/
def RingKept (s : State) : Prop :=
  (s.rp.sending = none → s.rp.trip = [] ∧ s.rp.forward = [] ∧ s.rp.control = [] ∧ s.rp.report = []) ∧
  s.rp.trip.length ≤ 8 ∧ (s.rp.trip.map (·.1)).Nodup ∧ s.rp.forward.length ≤ 4 ∧ ControlKept s.rp.control ∧
  s.rp.report.length ≤ 32

/-- The images, the feeders' service and the test queue (R148, R152, R159, R97, R101): the in-use image, the reference
image and the candidate of a commit in progress pass the content checks, a feeder is DISABLED exactly while it is out of
service, and the test queue holds one entry for each feeder in TEST_WAIT, with its class, and no other. -/
def ServiceKept (s : State) : Prop :=
  contentChecks s.rp.own s.img = none ∧ contentChecks s.rp.own s.sst.reference = none ∧
  (committing s = true → ∀ m, s.sst.staging = some m → contentChecks s.rp.own m = none) ∧
  (∀ f : Fin 8, (s.feeder f).state = .disabled ↔ inService s f = false) ∧
  (s.ltu.queue.map (·.1)).Nodup ∧ (∀ f : Fin 8, (s.feeder f).state = .testWait → f ∈ s.ltu.queue.map (·.1)) ∧
  ∀ e ∈ s.ltu.queue, (s.feeder e.1).state = .testWait ∧ (s.feeder e.1).cls = some e.2

/-- The event log (R163): at most 256 records, numbered without a gap up to the latest. -/
def LogKept (s : State) : Prop :=
  s.recs.log.length ≤ 256 ∧
  ∀ (i : Nat) (h : i < s.recs.log.length),
    s.recs.log[i].number = s.recs.latest - BitVec.ofNat 32 (s.recs.log.length - 1 - i)

/-- The store arbiter (R153, R157): a commit in progress holds its candidate in staging and has its image write under way
or waiting behind a flags write, an image write belongs to a commit, and an idle arbiter leaves nothing waiting. -/
def StoreKept (s : State) : Prop :=
  (committing s = true →
    s.sst.staging.isSome = true ∧
      (s.sst.arbiter = .image ∨ (s.sst.arbiter = .flags ∧ s.sst.imageWaiting = true))) ∧
  (s.sst.arbiter = .image → committing s = true ∧ s.sst.imageWaiting = false) ∧
  (s.sst.imageWaiting = true → committing s = true) ∧
  (s.sst.arbiter = .idle ↔ s.sst.writeStart = none) ∧
  (s.sst.arbiter = .idle → s.sst.flagsPending = false)

/-! ### Requests -/

/-- The request a command carries: the request, the requester, the tag and the argument bytes (11.3). A STAGE_WRITE whose
fields do not match its table is no STAGE_WRITE but a BAD_REQUEST (R176). -/
def requestParts : Instr → Option (Request × Byte × Byte × List Byte)
  | .identify src tag => some (.identify, src, tag, [])
  | .readStatus src tag part => some (.readStatus, src, tag, [part])
  | .timeSet src tag count => some (.timeSet, src, tag, wordBytes 6 count)
  | .restart src tag => some (.restart, src, tag, [])
  | .feederClose src tag feeder => some (.feederClose, src, tag, [feeder])
  | .feederOpen src tag feeder => some (.feederOpen, src, tag, [feeder])
  | .resetLockout src tag feeder => some (.resetLockout, src, tag, [feeder])
  | .resetBf src tag feeder => some (.resetBf, src, tag, [feeder])
  | .maskSet src tag bitmap => some (.maskSet, src, tag, [bitmap])
  | .maskClear src tag bitmap => some (.maskClear, src, tag, [bitmap])
  | .workPermitSet src tag feeder => some (.workPermitSet, src, tag, [feeder])
  | .workPermitClear src tag feeder => some (.workPermitClear, src, tag, [feeder])
  | .readFeeder src tag number => some (.readFeeder, src, tag, [number])
  | .groupSelect src tag feeder selection => some (.groupSelect, src, tag, [feeder, selection])
  | .rectStart src tag => some (.rectStart, src, tag, [])
  | .rectStop src tag => some (.rectStop, src, tag, [])
  | .rectReset src tag => some (.rectReset, src, tag, [])
  | .testCircuitReset src tag => some (.testCircuitReset, src, tag, [])
  | .stageWrite src tag table entry fields =>
    if stageWriteLengthOk table (4 * fields.length) then some (.stageWrite, src, tag, stageArgs table entry fields)
    else none
  | .stageRead src tag table entry => some (.stageRead, src, tag, [table, entry])
  | .stageDiscard src tag => some (.stageDiscard, src, tag, [])
  | .readSettings src tag table entry image => some (.readSettings, src, tag, [table, entry, image])
  | .commit src tag => some (.commit, src, tag, [])
  | .applyTrial src tag => some (.applyTrial, src, tag, [])
  | .revertTrial src tag => some (.revertTrial, src, tag, [])
  | .readEvents src tag first max => some (.readEvents, src, tag, wordBytes 4 first ++ [max])
  | .readAlarms src tag => some (.readAlarms, src, tag, [])
  | .clearAlarms src tag bitmap => some (.clearAlarms, src, tag, wordBytes 3 bitmap)
  | .alarmEnableSet src tag bitmap => some (.alarmEnableSet, src, tag, wordBytes 3 bitmap)
  | .alarmEnableClear src tag bitmap => some (.alarmEnableClear, src, tag, wordBytes 3 bitmap)
  | .captureTrigger src tag => some (.captureTrigger, src, tag, [])
  | .readCapture src tag segment start count =>
    some (.readCapture, src, tag, [segment] ++ wordBytes 2 start ++ [count])
  | .readCaptureNext src tag count => some (.readCaptureNext, src, tag, [count])
  | .captureRelease src tag segment => some (.captureRelease, src, tag, [segment])
  | .snapshot src tag => some (.snapshot, src, tag, [])
  | .readSnapshot src tag => some (.readSnapshot, src, tag, [])
  | .coldReset _ _ _ _ | .settingsKey _ | .reception _ | .transmissionEnd | .ringWindowEnd | .sampleFrame _
  | .freshnessTimeout _ | .startTimeout | .feederEvaluation _ | .lineVoltagePresentation _
  | .undervoltageTimerExpiry _ | .lossTimerExpiry _ | .rectifierEvaluation | .heldEvaluation | .busLossTimeout
  | .phaseBackTimeout | .gateStatus _ | .gateSilenceTimeout _ | .syncTimeout _ | .misfireAgeExpiry
  | .breakerStatus _ | .slotFreshnessTimeout _ | .noStatusTimeout | .commandLost _ _ | .tripRepeat _
  | .closeTimeout _ | .openWatchExpiry _ | .breakerFail _ | .openingTimeout _ | .deadTimeEnd _ | .remoteTimeout _
  | .reclaimEnd _ | .groupCloseTimeout | .groupOpenWatchExpiry | .groupTripTimeout | .tripDemandTaken _
  | .intertripDemandTaken _ | .testMeasurementPresentation | .settleEnd | .contactorTimeout
  | .strayContactorTimeout _ | .captureRow | .pilotFrame _ _ | .pilotFrameSend _ | .pilotSilenceTimeout _
  | .graceTimerExpiry _ | .transferTripHoldEnd _ | .commitCompletion _ | .flagsWriteEnd _ | .stationReport
  | .malformedRequest _ _ | .badRequest _ _ _ _ => none

/-- The state in which a request has left MGT's hands and its answer has been given, and nothing else has changed. -/
def answered (q : Request) (src tag : Byte) (args : List Byte) (r : Reply) (s : State) : State :=
  respond src tag (codeOf q) r (takeRequest src tag (codeOf q) args s)

/-- A request is authorised and passes the gate of the settings requests (R151, R177). -/
def Admitted (q : Request) (src : Byte) (s : State) : Prop :=
  holdsRight s.img src (requestRight q) = true ∧ gateAnswer q s = none

/-! ### Events and commands in a state -/

/-- The next event of a state, stamped with the station time of a state (R163). -/
def eventOf (s t : State) (src : Source) (kind : EventKind) (d : Detail) : EventRec :=
  { number := s.recs.latest + 1, time := t.mgt.time, timeSet := t.mgt.timeSet, source := src, kind := kind, detail := d }

/-- One event is logged between two states, and no other. -/
def LoggedOne (s t : State) (src : Source) (kind : EventKind) (d : Detail) : Prop :=
  t.recs.log = appendEvent s.recs.log (eventOf s t src kind d) ∧ t.recs.latest = s.recs.latest + 1

/-- The log and the latest event number after events in turn, stamped with the station time of a state (R163). -/
def logAfter (t : State) (r : Records) (es : List (Source × EventKind × Detail)) : List EventRec × BitVec 32 :=
  es.foldl (fun x e =>
    (appendEvent x.1
      { number := x.2 + 1, time := t.mgt.time, timeSet := t.mgt.timeSet, source := e.1, kind := e.2.1, detail := e.2.2 },
      x.2 + 1)) (r.log, r.latest)

/-- These events are logged between two states, in this order, and no other. -/
def LoggedAll (s t : State) (es : List (Source × EventKind × Detail)) : Prop :=
  (t.recs.log, t.recs.latest) = logAfter t s.recs es

/-- An event stands in the log among those logged between two states. -/
def LoggedIn (s t : State) (src : Source) (kind : EventKind) (d : Detail) : Prop :=
  ∃ n : Nat, 1 ≤ n ∧ n ≤ (t.recs.latest - s.recs.latest).toNat ∧
    { eventOf s t src kind d with number := s.recs.latest + BitVec.ofNat 32 n } ∈ t.recs.log

/-- An alarm's latch is set. -/
def latchSet (s : State) (a : Alarm) : Bool := decide (s.recs.latched &&& alarmBit a ≠ 0)

/-! ### Setpoints, trips of the rectifier, and capture triggers -/

/-- The payload of a BLOCK setpoint (R55, 11.2). -/
def gateBlock : List Byte := [0, 0, 0]

/-- The payload of a FIRE setpoint with its angle (R55, 11.2). -/
def gateFire (alpha : Int) : List Byte := 1 :: beBytes 2 alpha

/-- A setpoint has gone to both gate units (R55, R141): for each it is being sent or queued in CONTROL, and CONTROL holds no
other setpoint for that unit. A gate unit is its address. DESIGN CHOICE (notes/assumptions/35.md). -/
def SetpointsSent (payload : List Byte) (s t : State) : Prop :=
  ∀ (a : Byte) (f : RingFrame), a = s.img.rect.gateA ∨ a = s.img.rect.gateB →
    f = { dst := a, src := s.rp.own, kind := kindGateSetpoint, payload := payload } →
    (t.rp.sending = some f ∨ f ∈ t.rp.control) ∧
    ∀ g ∈ t.rp.control, g.kind = kindGateSetpoint → g.dst = a → g = f

/-- What one capture trigger makes of the segments (R170, R171); `none` is a trigger that the trigger mask does not name. A
segment in RECORDING enters POST with its header begun, and is FROZEN at once with its header completed where the post rows
are 0; in every other case the segments stand as they were. The channels that a header begun holds are left open here. -/
def TriggerActs (taken : Option Cause) (s t : State) : Prop :=
  ((taken = none ∨ ∀ i, activeSegment s.recs = some i → s.recs.segments[i].state ≠ .recording) →
    t.recs.segments = s.recs.segments ∧ t.recs.frozen = s.recs.frozen) ∧
  ∀ (cause : Cause) (i : Fin 4) (g : Segment), taken = some cause → activeSegment s.recs = some i →
    g = s.recs.segments[i] → g.state = .recording →
    (0 < s.img.capture.postRows → ∃ channels, t.recs.segments = s.recs.segments.set i { g with
      state := .post, postCount := 0
      header := some
        { record := 0, cause := cause, time := t.mgt.time, timeSet := t.mgt.timeSet, hasTrigger := !g.rows.isEmpty,
          validRows := 0, triggerRow := none, postRows := 0, channels := channels } }) ∧
    (s.img.capture.postRows = 0 → t.recs.segments[i] = { g with
      state := .frozen, postCount := 0
      header := some
        { record := s.recs.frozen + 1, cause := cause, time := t.mgt.time, timeSet := t.mgt.timeSet,
          hasTrigger := !g.rows.isEmpty, validRows := g.rows.length,
          triggerRow := if g.rows.isEmpty then none else some (g.rows.length - 1), postRows := 0,
          channels := captureChannels s.img } })

/-- What entry into TRIPPED brings outside the rectifier's own record (R66, R95): BLOCK to both gate units, slot 8 asked to
trip unless it is reported OPEN or not fitted, RECT_TRIP, and the rectifier-trip trigger. -/
def TripFollows (cause : Cause) (s t : State) : Prop :=
  (ControlKept s.rp.control → SetpointsSent gateBlock s t) ∧
  t.fsq.groupState = (if s.rct.groupPos = some .opened ∨ fitted s.img 8 = false then s.fsq.groupState else .tripping) ∧
  (s.rct.groupPos ≠ some .opened → fitted s.img 8 = true → s.fsq.groupState ≠ .tripping →
    ((t.slot 8).breakerCmd.map (·.cmd)) = some .trip) ∧
  LoggedIn s t .rectifier .rectTrip
    { causes := [.cause cause], current := some (rectCurrent s), voltage := some s.rct.vBus } ∧
  TriggerActs (if s.img.capture.maskRect then some .rectTrip else none) s t

/-! ### The items of a pilot frame -/

/-- The item of a section id among the items of a pilot frame. -/
def itemOf (items : List PilotItem) (sid : Byte) : Option PilotItem :=
  items.find? fun x => decide (x.sectionId = sid)

/-- The items of a taken frame whose section id matches no section of the port (R127). -/
def unknownItems (m : Image) (p : Port) (items : List PilotItem) : List PilotItem :=
  items.filter fun x => decide (x.sectionId ∉ (sectionsOn m p).map fun i => m.sections[i].sectionId)

/-- The items of a frame taken on an UP link applied to its port (R126, R127, R129): the remote end states and the flags
received, the intertrip demands, the unknown sections list, and the events, after those of `first`. -/
def ItemsApplied (p : Port) (items : List PilotItem) (first : List (Source × EventKind × Detail)) (s u : State) : Prop :=
  (∀ i, i ∉ sectionsOn s.img p → u.sco.sections[i] = s.sco.sections[i]) ∧
  (∀ i ∈ sectionsOn s.img p,
    (∀ x, itemOf items s.img.sections[i].sectionId = some x →
      u.sco.sections[i] = { s.sco.sections[i] with remote := x.endState, flag := x.flag }) ∧
    (itemOf items s.img.sections[i].sectionId = none →
      u.sco.sections[i] = { s.sco.sections[i] with remote := .none, flag := false })) ∧
  u.fsq.intertrips = s.fsq.intertrips ++ (sectionsOn s.img p).filterMap (fun i =>
    match itemOf items s.img.sections[i].sectionId with
    | some x => if x.flag then some s.img.sections[i].feeder else none
    | none => none) ∧
  (u.link p).unknown =
    ((s.link p).unknown.map fun e =>
      match (unknownItems s.img p items).find? fun x => decide (x.sectionId = e.1) with
      | some x => (e.1, x.flag)
      | none => e) ++
    (((unknownItems s.img p items).filter fun x => (s.link p).unknown.all fun e => decide (e.1 ≠ x.sectionId)).take
      (4 - (s.link p).unknown.length)).map (fun x => (x.sectionId, x.flag)) ∧
  LoggedAll s u (first ++
    ((sectionsOn s.img p).filterMap fun i =>
      if itemOf items s.img.sections[i].sectionId = none ∧ s.sco.sections[i].remote ≠ .none then
        some (.pilot p, .sectionMissing, { tag := some s.img.sections[i].sectionId.toNat })
      else none) ++
    ((unknownItems s.img p items).filterMap fun x =>
      if (s.link p).unknown.find? (fun e => decide (e.1 = x.sectionId)) = none ∨
          (x.flag = true ∧
            ((s.link p).unknown.find? fun e => decide (e.1 = x.sectionId)).map (·.2) = some false) then
        some (.pilot p, .unknownSection,
          { causes := [.cause (if x.flag then .flagSet else .flagClear)], tag := some x.sectionId.toNat })
      else none) ++
    ((sectionsOn s.img p).filterMap fun i =>
      match itemOf items s.img.sections[i].sectionId with
      | some x =>
        if x.flag = true ∧ s.sco.sections[i].flag = false then
          some (.pilot p, .transferTripIn,
            { causes := [.feederState (s.feeder s.img.sections[i].feeder).state],
              tag := some s.img.sections[i].sectionId.toNat })
        else none
      | none => none))

/-! ### The in-use image -/

/-- The commands at which the in-use image may change (R155, R159, R161). -/
def mayChangeImage : Instr → Bool
  | .coldReset _ _ _ _ | .commitCompletion _ | .applyTrial _ _ | .revertTrial _ _ | .restart _ _ => true
  | _ => false

end Sys2Proof.Machine
end

