-- ==== Sys2Proof/Certificates/Slice0/Obligations.lean ====
section
/-! DEFINITION. The statements about the part, in the order of its blocks. -/

open Sys2Proof Sys2Proof.Machine

/-! ### The step and the resets -/

/-- A step runs the command at the front of the queue with the queue's rest. -/
def Obligations.StepRunsTheFrontCommand : Prop :=
  ∀ (c : Instr) (rest : List Instr) (s : State), s.pending = c :: rest →
    step s = exec c { s with pending := rest }

/-- With no command waiting, one microsecond of elapsed time and of station time passes and nothing else changes: the
model's choice (notes/assumptions/5.md), after the count of section 5.5. -/
def Obligations.StepIdlesOneMicrosecond : Prop :=
  ∀ s : State, s.pending = [] →
    step s = .next { s with now := s.now + 1, mgt := { s.mgt with time := s.mgt.time + 1 } }

/-- The state after any cold reset, block by block: the own address of the straps, the queues, the arbiter's turn and
the counts of RP (R145, R146), the points (R17), the protection records (R45), the rectifier (R70), the feeders with the
lockout flags and work permits that a valid and an invalid flags record give, and the slots with the TEST_OFF of each
test contactor (R98), the test circuit (R118), the links (R133), the settings store's fields but for its choice of
image, with the flags write of an invalid record begun (R159), the alarms' enables, the segments and the snapshot (R168,
R174), and the time (R178). That the TEST_OFF frames stand in rising slot order (notes/assumptions/40.md), and that the
setting of auto-start is kept from this arming (notes/assumptions/17.md), are the model's choices. -/
def Obligations.ColdResetSetsEveryBlock : Prop :=
  ∀ (straps : Byte) (key : KeyPos) (imageCheck flagsCheck : Bool) (s : State) (valid : Bool),
    valid = (s.sst.flagsValid && flagsCheck) →
    ∃ t, exec (.coldReset straps key imageCheck flagsCheck) s = .next t ∧
      t.pending = s.pending ∧ t.now = 0 ∧
      (∃ c, t.rp =
        { own := if straps = 0 ∨ straps = 255 then 254 else straps, straps := straps, trip := [], forward := [],
          control := c, report := [], sending := t.rp.sending, turn := .forward, windowStart := 0, windowBad := 0,
          windowOver := 0, lastBad := 0, lastOver := 0, degraded := false, good := 0, bad := 0, addressErr := 0,
          stripped := 0, taken := 0, forwarded := 0, unexpected := 0, overruns := 0, cmdsLost := 0, heldOver := 0,
          repsSkipped := 0, respsDropped := 0 } ∧
        t.rp.sending.toList ++ c = ((List.finRange 8).filter fun k => contactorSlot t.img k.castSucc).map fun k =>
          { dst := t.img.breakers[k.castSucc].address, src := t.rp.own, kind := kindBreakerCommand, payload := [5, 0] }) ∧
      (∀ p : Fin 32, t.point p =
        { state := if t.img.inputs[p].inUse then .warming else .unmapped, history := [], seq := none, warm := 0,
          saturating := false, overflow := false,
          freshness := if t.img.inputs[p].inUse then some 0 else none, freshSince := false }) ∧
      t.msu.startRunning = true ∧ t.msu.startSet = [] ∧ t.msu.presentations = [] ∧ t.msu.frames = [] ∧
      (∀ f : Fin 8, t.prot f =
        { selection := t.img.feeders[f].defaultGroup, groupInUse := none, rise := .quiet, theta := 0, blockSum := 0,
          blockCount := 0, thermalAlarm := false, inhibit := false, uvTimer := none, uvCondition := false,
          lossTimer := none, demand := none }) ∧
      t.rct.state = .stopped ∧ t.rct.xi = 0 ∧ t.rct.dCl = t.img.rect.dMax ∧ t.rct.dSs = none ∧ t.rct.dRest = none ∧
      t.rct.out = none ∧ t.rct.alpha = none ∧ t.rct.pbTimer = none ∧ t.rct.busLoss = none ∧
      (∀ g : GateUnit, (t.rct.gate g).silence = some 0 ∧ (t.rct.gate g).silent = false ∧ (t.rct.gate g).sync = none) ∧
      t.rct.misfires = [] ∧ t.rct.lastTrip = none ∧ t.rct.autoArmed = true ∧
      t.rct.autoStart = t.img.rect.autoStart ∧ t.rct.groupPos = none ∧
      (∀ f : Fin 8, t.feeder f =
        { state := if t.img.feeders[f].inService then .unresolved else .disabled, cls := none, mask := true
          permit := if valid then s.sst.flagsPermit[f] else true
          lockoutFlag := if valid then s.sst.flagsLockout[f] else t.img.feeders[f].inService
          shots := t.img.feeders[f].shots, deadIndex := none, deadElapsed := false, recloseActive := false,
          reclaim := none, stateTimer := none, withinReclaim := false, fromClosed := false, lastTrip := none,
          closes := 0, trips := 0, wear := 0 }) ∧
      (∀ k : Fin 9, (t.slot k).report = none ∧ (t.slot k).statusSeen = false ∧ (t.slot k).freshness = none ∧
        (t.slot k).unknown = false ∧ (t.slot k).breakerCmd = none ∧ (t.slot k).openWatch = none ∧
        (contactorSlot t.img k = false → (t.slot k).nextTag = 0 ∧ (t.slot k).contactorCmd = none) ∧
        (contactorSlot t.img k = true → (t.slot k).nextTag = 1 ∧ (t.slot k).contactorCmd =
          some { cmd := .testOff, tag := 0, echoed := false, sentAt := 0, echo := some 0 })) ∧
      t.fsq.groupState = .idle ∧ t.fsq.groupTimer = none ∧ t.fsq.noStatusDue = false ∧
      t.ltu.circuit = .idle ∧ t.ltu.record = none ∧ t.ltu.queue = [] ∧ t.ltu.strays = [] ∧ t.ltu.lastTest = none ∧
      (∀ p : Port, (t.link p).up = false ∧ (t.link p).remoteId = none ∧ (t.link p).lastSeq = none ∧
        (t.link p).run = 0 ∧ (t.link p).conflict = false ∧ (t.link p).grace = some 0 ∧ (t.link p).unknown = [] ∧
        (t.link p).outSeq = 0 ∧ (t.link p).discarded = 0) ∧
      (∀ i : Fin 8, t.sco.sections[i] = { remote := .none, hold := none, flag := false }) ∧
      t.sst.key = key ∧ t.sst.staging = none ∧ t.sst.flagsValid = valid ∧
      t.sst.arbiter = (if valid then .idle else .flags) ∧ t.sst.writeStart = (if valid then none else some 0) ∧
      (∀ f : Fin 8, t.sst.flagsLockout[f] = (t.feeder f).lockoutFlag ∧ t.sst.flagsPermit[f] = (t.feeder f).permit) ∧
      t.sst.imageWaiting = false ∧ t.sst.flagsPending = false ∧ t.sst.flagsRetry = false ∧ t.sst.lastCommit = none ∧
      t.recs.enabled = 0xFFFFFF#24 ∧ t.recs.snapshot = none ∧ t.recs.readPtr = none ∧ t.recs.frozen = 0 ∧
      (∀ i : Fin 4, t.recs.segments[i] =
        { state := if i = 0 then .recording else .free, rows := [], header := none, postCount := 0 }) ∧
      t.mgt.time = 0 ∧ t.mgt.timeSet = false ∧ t.mgt.reportCount = 0 ∧ t.mgt.warmReset = none ∧ t.mgt.malformed = 0

/-- Which image a cold reset puts in use (R159): the stored image where it is marked valid, its check is good and it
passes its entry and content checks, with settings STORED; otherwise the default image under the own address, with
settings DEFAULT and the store left invalid. The stored image stays as it is unless its mark is valid and its check
bad, of which the spec does not state the entries (notes/assumptions/4.md). -/
def Obligations.ColdResetChoosesTheImage : Prop :=
  ∀ (straps : Byte) (key : KeyPos) (imageCheck flagsCheck : Bool) (s : State) (ok : Bool),
    ok = (s.sst.storedValid && imageCheck && entriesPass s.sst.stored &&
      (contentChecks (ownAddress straps) s.sst.stored).isNone) →
    ∃ t, exec (.coldReset straps key imageCheck flagsCheck) s = .next t ∧
      t.img = (if ok then s.sst.stored else defaultImage (ownAddress straps)) ∧
      t.sst.reference = t.img ∧ t.sst.storedValid = ok ∧
      (s.sst.storedValid = false ∨ imageCheck = true → t.sst.stored = s.sst.stored) ∧
      t.sst.settings = .base (if ok then .stored else .default) ∧
      (latchSet t .storeInvalid = true ↔ ok = false ∨ t.sst.flagsValid = false)

/-- A cold reset of a part whose store holds nothing valid, with straps 254 and the key locked, gives the model's
reset state (notes/assumptions/1.md): only the queue, the bytes of the invalid stored image and the model's own
counter differ. -/
def Obligations.ColdResetOfAnEmptyStoreGivesStateReset : Prop :=
  ∀ (imageCheck flagsCheck : Bool) (s : State), s.sst.storedValid = false → s.sst.flagsValid = false →
    exec (.coldReset 254 .locked imageCheck flagsCheck) s =
      .next { State.reset with
        pending := s.pending, freeCount := s.freeCount, sst := { State.reset.sst with stored := s.sst.stored } }

/-- A change of the settings key line sets the key position and logs SETTINGS_KEY; a level the position already has
changes nothing. -/
def Obligations.SettingsKeyFollowsTheLine : Prop :=
  ∀ (pos : KeyPos) (s : State),
    ∃ t, exec (.settingsKey pos) s = .next t ∧ t.sst.key = pos ∧ t = { s with sst := t.sst, recs := t.recs } ∧
      t.sst = { s.sst with key := pos } ∧
      (s.sst.key = pos → t = s) ∧
      (s.sst.key ≠ pos → LoggedOne s t .settings .settingsKey
        { causes := [.cause (match pos with
          | .locked => .locked
          | .unlocked => .unlocked)] })

/-! ### The ring port -/

/-- A frame put on the ring by the part's own layout (11.1, R182) is received by it as that frame, and bytes received
as a good frame are the bytes of that frame and no others. -/
def Obligations.RingFrameBytesRoundTrip : Prop :=
  (∀ f : RingFrame, f.payload.length ≤ 250 → goodFrame (frameBytes f) = some f) ∧
  (∀ (bytes : List Byte) (f : RingFrame), goodFrame bytes = some f →
    frameBytes f = bytes ∧ f.payload.length ≤ 250 ∧ bytes.length = f.payload.length + 6)

/-- A frame addressed to the part is counted good and taken, and handed to the owner of its kind (R136, R137); a kind
that no block owns is counted unexpected. That a frame handed over waits in a list of its owner is the model's choice
(notes/assumptions/7.md). -/
def Obligations.ReceptionHandsOverFramesForThePart : Prop :=
  ∀ (f : RingFrame) (s : State), f.payload.length ≤ 250 → f.dst = s.rp.own → f.dst ≠ 0 → f.src ≠ 0 → f.src ≠ 255 →
    f.src ≠ s.rp.own →
    ∃ t, exec (.reception (frameBytes f)) s = .next t ∧
      t = { s with rp := t.rp, msu := t.msu, fsq := t.fsq, rct := t.rct, mgt := t.mgt } ∧
      t.rp = { s.rp with
        good := min top32 (s.rp.good + 1), taken := min top32 (s.rp.taken + 1),
        unexpected := if f.kind = 1 ∨ f.kind = 3 ∨ f.kind = 5 ∨ f.kind = 6 then s.rp.unexpected
          else min top32 (s.rp.unexpected + 1) } ∧
      t.msu = { s.msu with frames := if f.kind = 1 then s.msu.frames ++ [f] else s.msu.frames } ∧
      t.fsq = { s.fsq with frames := if f.kind = 3 then s.fsq.frames ++ [f] else s.fsq.frames } ∧
      t.rct = { s.rct with frames := if f.kind = 5 then s.rct.frames ++ [f] else s.rct.frames } ∧
      t.mgt = { s.mgt with requests := if f.kind = 6 then s.mgt.requests ++ [f] else s.mgt.requests }

/-- A frame for another node is forwarded where the FORWARD queue has room, and at once where the output is idle; a
SAMPLE frame of a mapped head is also copied to MSU. With 4 frames queued it is dropped, which counts an overrun and
latches RING_OVERRUN. A frame with an invalid address is counted an address error and one of the part's own is stripped
(R136, R140). That a frame counts as forwarded when it is placed in the FORWARD queue is the model's reading
(notes/assumptions/20.md), and that a copied frame waits in a list of MSU its choice (notes/assumptions/7.md). -/
def Obligations.ReceptionForwardsFramesOfOthers : Prop :=
  ∀ (f : RingFrame) (s : State), f.payload.length ≤ 250 →
    ∃ t, exec (.reception (frameBytes f)) s = .next t ∧ t.rp.good = min top32 (s.rp.good + 1) ∧
      t = { s with rp := t.rp, msu := t.msu, fsq := t.fsq, rct := t.rct, mgt := t.mgt, recs := t.recs } ∧
      (f.dst = 0 ∨ f.src = 0 ∨ f.src = 255 →
        t = { s with rp := { s.rp with
          good := min top32 (s.rp.good + 1), addressErr := min top32 (s.rp.addressErr + 1) } }) ∧
      (f.dst ≠ 0 → f.src ≠ 0 → f.src ≠ 255 → f.src = s.rp.own →
        t = { s with rp := { s.rp with
          good := min top32 (s.rp.good + 1), stripped := min top32 (s.rp.stripped + 1) } }) ∧
      (f.dst ≠ 0 → f.src ≠ 0 → f.src ≠ 255 → f.src ≠ s.rp.own → f.dst ≠ s.rp.own →
        t.msu.frames = (if f.kind = 1 ∧ mappedHead s.img f.src = true then s.msu.frames ++ [f] else s.msu.frames) ∧
        (s.rp.forward.length < 4 →
          t.rp = startIfIdle { s.rp with
            good := min top32 (s.rp.good + 1), forward := s.rp.forward ++ [f],
            forwarded := min top32 (s.rp.forwarded + 1) }) ∧
        (4 ≤ s.rp.forward.length →
          t.rp.forward = s.rp.forward ∧ t.rp.overruns = min top32 (s.rp.overruns + 1) ∧
          t.rp.windowOver = min top16 (s.rp.windowOver + 1) ∧ latchSet t .ringOverrun = true))

/-- At the end of a transmission the output takes the oldest frame of TRIP; with TRIP empty, of FORWARD or of CONTROL as
the turn says where both hold frames, and of the one that holds frames otherwise, the turn passing to the other; with
those empty, of REPORT; and with all empty it falls idle (R144). -/
def Obligations.TransmissionEndChoosesTheNextFrame : Prop :=
  ∀ (g : RingFrame) (s : State), s.rp.sending = some g →
    ∃ t, exec .transmissionEnd s = .next t ∧ t = { s with rp := t.rp } ∧
      (∀ e rest, s.rp.trip = e :: rest → t.rp = { s.rp with trip := rest, sending := some e.2 }) ∧
      (∀ f rest, s.rp.trip = [] → s.rp.forward = f :: rest → s.rp.turn = .forward ∨ s.rp.control = [] →
        t.rp = { s.rp with forward := rest, sending := some f, turn := .control }) ∧
      (∀ f rest, s.rp.trip = [] → s.rp.control = f :: rest → s.rp.turn = .control ∨ s.rp.forward = [] →
        t.rp = { s.rp with control := rest, sending := some f, turn := .forward }) ∧
      (∀ f rest, s.rp.trip = [] → s.rp.forward = [] → s.rp.control = [] → s.rp.report = f :: rest →
        t.rp = { s.rp with report := rest, sending := some f }) ∧
      (s.rp.trip = [] → s.rp.forward = [] → s.rp.control = [] → s.rp.report = [] →
        t.rp = { s.rp with sending := none })

/-- Bytes that are no good frame are counted bad and change nothing else but RING_DEGRADED, which becomes active at the
tenth bad frame of a window and is logged there, with the window's count, only where it was not active already, the
model's reading (notes/assumptions/20.md) (R135, R138). At the end of a window its two counts become those of the latest
completed window and the next counts from 0; RING_DEGRADED ends with a window of fewer than 10 bad frames, and
RING_RECOVERED is then logged. -/
def Obligations.BadFramesAndRingWindows : Prop :=
  (∀ (bytes : List Byte) (s : State), goodFrame bytes = none →
    ∃ t, exec (.reception bytes) s = .next t ∧ t = { s with rp := t.rp, recs := t.recs } ∧
      t.rp = { s.rp with
        bad := min top32 (s.rp.bad + 1), windowBad := min top16 (s.rp.windowBad + 1),
        degraded := s.rp.degraded || decide (9 ≤ s.rp.windowBad) } ∧
      (s.rp.degraded = false → 9 ≤ s.rp.windowBad →
        latchSet t .ringDegraded = true ∧
        LoggedOne s t .ring .ringDegraded { number := some (min top16 (s.rp.windowBad + 1)) }) ∧
      (s.rp.degraded = true ∨ s.rp.windowBad < 9 → t.recs = s.recs)) ∧
  (∀ s : State,
    ∃ t, exec .ringWindowEnd s = .next t ∧ t = { s with now := t.now, rp := t.rp, recs := t.recs, mgt := t.mgt } ∧
      t.now = max s.now (s.rp.windowStart + 1000000) ∧
      t.rp = { s.rp with
        lastBad := s.rp.windowBad, lastOver := s.rp.windowOver, windowBad := 0, windowOver := 0,
        windowStart := s.rp.windowStart + 1000000, degraded := s.rp.degraded && decide (10 ≤ s.rp.windowBad) } ∧
      (s.rp.degraded = true → s.rp.windowBad < 10 → LoggedOne s t .ring .ringRecovered {}) ∧
      (s.rp.degraded = false ∨ 10 ≤ s.rp.windowBad → t.recs = s.recs))

/-! ### Measurement points -/

/-- A well-formed SAMPLE frame updates each in-use point of its head whose channel is present, by its class, from the
scaled value, and no other point (R2, R3); then every updated point is presented (R4, R15), in rising point number and
waiting in MSU (the model's choices, notes/assumptions/10.md). With no feeder waiting for a line test nothing outside
MSU and REC changes. A malformed frame leaves MSU's hands and has no other effect. -/
def Obligations.SampleFrameUpdatesThePresentPoints : Prop :=
  (∀ (f : RingFrame) (s : State), sampleWellFormed f = true →
    ∃ t, exec (.sampleFrame f) s = .next t ∧
      (∀ p raw, (p, raw) ∈ presentPoints s f ↔
        s.img.inputs[p].inUse = true ∧ s.img.inputs[p].head = f.src ∧
        s.img.inputs[p].channel < sampleCount f.payload ∧
        (f.payload.getD 3 0).getLsbD s.img.inputs[p].channel = true ∧
        raw = signed16 (f.payload.getD (4 + 2 * s.img.inputs[p].channel) 0)
          (f.payload.getD (5 + 2 * s.img.inputs[p].channel) 0)) ∧
      (∀ p raw, (p, raw) ∈ presentPoints s f →
        t.point p = updatedPoint (classify (s.point p) (sampleSequence f.payload)) (sampleSequence f.payload)
          (engineering s.img.inputs[p] raw) (saturates s.img.inputs[p] raw) s.now (s.point p)) ∧
      (∀ p, (∀ raw, (p, raw) ∉ presentPoints s f) → t.point p = s.point p) ∧
      t.msu.frames = s.msu.frames.erase f ∧
      (∃ u, u.msu.points = t.msu.points ∧ u.sst = s.sst ∧ u.ltu = s.ltu ∧
        t.msu.presentations = s.msu.presentations ++ (presentPoints s f).flatMap fun e =>
          presentationsOf u e.1 (classify (s.point e.1) (sampleSequence f.payload))) ∧
      t.now = s.now ∧ t.rct = s.rct ∧ t.sco = s.sco ∧ t.mgt = s.mgt ∧ t.img = s.img ∧ t.pending = s.pending ∧
      (s.ltu.queue = [] → t = { s with msu := t.msu, recs := t.recs })) ∧
  (∀ (f : RingFrame) (s : State), sampleWellFormed f = false →
    exec (.sampleFrame f) s = .next { s with msu := { s.msu with frames := s.msu.frames.erase f } })

/-- What an update does to a point, by its state and its gap: the scaled value (R5) with its marks (R6), a duplicate
(R10), a normal or bridged update with its copies (R9) and its warm-up (R12), and a resync or a first value (R11,
R14). -/
def Obligations.UpdateFollowsTheGap : Prop :=
  ∀ (f : RingFrame) (s : State) (p : Fin 32) (raw scaled v : Int) (seq : BitVec 16), sampleWellFormed f = true →
    (p, raw) ∈ presentPoints s f → seq = sampleSequence f.payload →
    scaled = (raw * s.img.inputs[p].gain + 2048) / 4096 + s.img.inputs[p].offset →
    v = max (-32768) (min 32767 scaled) →
    ∃ t, exec (.sampleFrame f) s = .next t ∧
      ((s.point p).state = .stale ∨ (s.point p).seq = none →
        t.point p =
          { state := .warming, history := List.replicate 16 v, seq := some seq, warm := 0, saturating := decide (v ≠ scaled),
            overflow := (s.point p).overflow || decide (v ≠ scaled), freshness := some s.now,
            freshSince := (s.point p).freshSince }) ∧
      (∀ last, (s.point p).seq = some last → (s.point p).state = .warming ∨ (s.point p).state = .fresh →
        ((seq - last).toNat = 0 → t.point p = s.point p) ∧
        (1 ≤ (seq - last).toNat → (seq - last).toNat ≤ 5 →
          (t.point p).history = (v :: (List.replicate ((seq - last).toNat - 1) ((s.point p).history.headD v) ++
            (s.point p).history)).take 16 ∧
          (t.point p).seq = some seq ∧ (t.point p).freshness = some s.now ∧
          (t.point p).warm = min 16 ((s.point p).warm + (seq - last).toNat) ∧
          ((t.point p).state = .fresh ↔
            (s.point p).state = .fresh ∨ 16 ≤ (s.point p).warm + (seq - last).toNat) ∧
          (t.point p).saturating = decide (v ≠ scaled) ∧
          (t.point p).overflow = ((s.point p).overflow || decide (v ≠ scaled))) ∧
        (6 ≤ (seq - last).toNat →
          t.point p =
            { state := .warming, history := List.replicate 16 v, seq := some seq, warm := 0,
              saturating := decide (v ≠ scaled), overflow := (s.point p).overflow || decide (v ≠ scaled),
              freshness := some s.now, freshSince := (s.point p).freshSince }))

/-- 500 µs without an update make a point STALE with everything else of it kept (R13), which empties the rise record and
the thermal block of each feeder in service that uses it for its current and starts the loss timer of one that is CLOSED
(R38). That a value of the point which still waits for its block is withdrawn is the model's choice
(notes/assumptions/10.md), made so that no block takes a value of a STALE point (R14). -/
def Obligations.FreshnessTimeoutMakesThePointStale : Prop :=
  ∀ (p : Fin 32) (s : State) (t0 : Nat), (s.point p).freshness = some t0 →
    ∃ t, exec (.freshnessTimeout p) s = .next t ∧
      t.now = max s.now (t0 + 500) ∧
      t.point p = { s.point p with state := .stale, freshness := none } ∧
      (∀ q, q ≠ p → t.point q = s.point q) ∧
      t.msu.presentations = s.msu.presentations.filter (fun e => decide (e.point ≠ p)) ∧
      t.img = s.img ∧ t.pending = s.pending ∧
      (s.img.inputs[p].inUse = true → latchSet t .mpStale = true ∨ alarmActive s .mpStale = true) ∧
      (s.ltu.queue = [] → s.ltu.circuit = .idle →
        t = { s with now := t.now, mgt := t.mgt, msu := t.msu, fpr := t.fpr, rct := t.rct, recs := t.recs } ∧
        LoggedOne s t .part .pointStale (kindDetail s.img.inputs[p].kind p (pointValue s p)) ∧
        (∀ f : Fin 8, inService s f = true → s.img.feeders[f].currentPoint = p →
          (t.prot f).rise = .quiet ∧ (t.prot f).blockCount = 0 ∧ (t.prot f).theta = (s.prot f).theta ∧
          ((s.feeder f).state = .closed → (t.prot f).lossTimer = some t.now)) ∧
        (s.img.rect.busPoint ≠ p → t.rct = s.rct) ∧
        (s.img.rect.busPoint = p → t.rct = { s.rct with
          held := some t.now, busLoss := if running s.rct.state then some t.now else none }))

/-- 2 s after the cold reset the start-up set is formed of the in-use points that have not been FRESH, and START_TIMEOUT
is logged with their number where there is one (R18). -/
def Obligations.StartTimeoutFormsTheStartUpSet : Prop :=
  ∀ s : State, s.msu.startRunning = true →
    ∃ t, exec .startTimeout s = .next t ∧
      t = { s with now := t.now, mgt := t.mgt, msu := t.msu, recs := t.recs } ∧ t.now = max s.now 2000000 ∧
      t.msu = { s.msu with startRunning := false, startSet := t.msu.startSet } ∧
      (∀ p : Fin 32, p ∈ t.msu.startSet ↔ s.img.inputs[p].inUse = true ∧ (s.point p).freshSince = false) ∧
      (t.msu.startSet = [] → t.recs.log = s.recs.log) ∧
      (t.msu.startSet ≠ [] →
        LoggedOne s t .part .startTimeout { number := some t.msu.startSet.length } ∧
        (s.msu.startSet = [] → latchSet t .startTimeout = true))

/-! ### Feeder protection -/

/-- An evaluation of a feeder in service (R24), up to the looks that follow it: the group in use, the loss timer, the
rise record and the thermal block of a WARMING value and of a FRESH one, θ by the mean square of each completed block
of 100 positions (R31, R32), θ's two levels (R33, R34), and the trip demand (R42) with the exact cause list (R41): IOC
and IOC_REV (R25), the causes of the rise (R29), THERMAL (R33) and OVERFLOW (R40). GROUP_CHANGE is logged where the
group in use differs from that of the evaluation before (R23), and THERMAL_ALARM where the thermal alarm goes from
clear to set. -/
def Obligations.FeederEvaluationRunsItsSteps : Prop :=
  ∀ (f : Fin 8) (s : State) (pr : Presentation) (fe : FeederEntry) (ge : GroupEntry) (rs : Rise × List Cause),
    nextFor (.current f) s = some pr →
    inService s f = true → s.img.feeders[f].currentPoint = pr.point →
    fe = s.img.feeders[f] → ge = activeSettings s f →
    rs = riseStep ge pr.value (pr.history.getD 4 pr.value) pr.advance (s.prot f).rise →
    ∃ u causes, exec (.feederEvaluation f) s = .next (latchRises s (arbitrate (deadTimeLook f u))) ∧
      u = { s with msu := u.msu, fpr := s.fpr.set f (u.prot f), recs := u.recs } ∧
      u.msu = { s.msu with
        presentations := s.msu.presentations.eraseP fun x => decide (x.target = .current f) } ∧
      u.recs = { s.recs with log := u.recs.log, latest := u.recs.latest } ∧
      LoggedAll s u
        ((match (s.prot f).groupInUse with
          | some g => if g = activeGroup s f then []
            else [(.feeder f, .groupChange, { group := some (activeGroup s f) })]
          | none => []) ++
        (if (s.prot f).thermalAlarm = false ∧ (u.prot f).thermalAlarm = true
          then [(.feeder f, .thermalAlarm, { current := some pr.value })] else [])) ∧
      (u.prot f).groupInUse = some (activeGroup s f) ∧ (u.prot f).lossTimer = none ∧
      (u.prot f).selection = (s.prot f).selection ∧ (u.prot f).uvTimer = (s.prot f).uvTimer ∧
      (u.prot f).uvCondition = (s.prot f).uvCondition ∧
      (pr.state ≠ .fresh →
        (u.prot f).rise = .quiet ∧ (u.prot f).blockSum = 0 ∧ (u.prot f).blockCount = 0 ∧
        (u.prot f).theta = (s.prot f).theta) ∧
      (pr.state = .fresh →
        (u.prot f).rise = rs.1 ∧
        ((u.prot f).blockSum, (u.prot f).blockCount, (u.prot f).theta) =
          (((pr.history.take pr.advance).drop 1).reverse ++ [pr.value]).foldl
            (fun (x : Int × Nat × Int) (i : Int) =>
              if 99 ≤ x.2.1 then (0, 0, x.2.2 + Int.tdiv ((x.1 + i * i) / 100 - x.2.2) (100 * fe.tau : Nat))
              else (x.1 + i * i, x.2.1 + 1, x.2.2))
            ((s.prot f).blockSum, (s.prot f).blockCount, (s.prot f).theta)) ∧
      (u.prot f).thermalAlarm = decide (81 * ((fe.iTh : Int) * fe.iTh) ≤ 100 * (u.prot f).theta) ∧
      (u.prot f).inhibit = decide (64 * ((fe.iTh : Int) * fe.iTh) ≤ 100 * (u.prot f).theta) ∧
      causes = (if pr.state = .fresh then
          (if (if (s.feeder f).permit then min ge.iMax fe.iMaxWp else ge.iMax : Nat) ≤ pr.value then [.ioc] else []) ++
          (if ge.iRev ≠ 0 ∧ pr.value ≤ -(ge.iRev : Int) then [.iocRev] else []) ++ rs.2 else []) ++
        (if (fe.iTh : Int) * fe.iTh ≤ (u.prot f).theta then [.thermal] else []) ++
        (if pr.saturating = true ∧ fe.tripOnOverflow = true then [.overflow] else []) ∧
      (u.prot f).demand =
        (if causes ≠ [] ∧ ((s.feeder f).state = .closed ∨ (s.feeder f).state = .closing) ∧ (s.prot f).demand = none then
          some { causes := causes, current := some pr.value, group := activeGroup s f, time := s.mgt.time,
                 timeSet := s.mgt.timeSet }
        else (s.prot f).demand)

/-- Rise discrimination at an evaluation on a FRESH value (R26 to R29): with r the difference of slots 0 and 4 of the
history as the presented update left it, a rate meets a setting when 5 × r ≥ 2 × S; the entry, the counts, DIDT and
DELTA_I, and the end of a rise. -/
def Obligations.RiseDiscriminationFollowsTheCounts : Prop :=
  ∀ (f : Fin 8) (s : State) (pr : Presentation) (ge : GroupEntry) (r i4 : Int), nextFor (.current f) s = some pr →
    inService s f = true → s.img.feeders[f].currentPoint = pr.point → pr.state = .fresh → ge = activeSettings s f →
    i4 = pr.history.getD 4 pr.value → r = pr.value - i4 →
    ∃ u, exec (.feederEvaluation f) s = .next (latchRises s (arbitrate (deadTimeLook f u))) ∧
      ((s.prot f).rise = .quiet → 5 * r < 2 * (ge.sStart : Int) → (u.prot f).rise = .quiet) ∧
      (∀ (iStart : Int) (n c e : Nat),
        ((s.prot f).rise = .quiet ∧ 2 * (ge.sStart : Int) ≤ 5 * r ∧ iStart = i4 ∧ n = 4 ∧
            c = (if 2 * (ge.sTrip : Int) ≤ 5 * r then min 65535 pr.advance else 0) ∧
            e = (if 2 * (ge.sEnd : Int) ≤ 5 * r then 0 else min 65535 pr.advance)) ∨
          (∃ n0 c0 e0, (s.prot f).rise = .rising iStart n0 c0 e0 ∧ n = min 65535 (n0 + pr.advance) ∧
            c = (if 2 * (ge.sTrip : Int) ≤ 5 * r then min 65535 (c0 + pr.advance) else 0) ∧
            e = (if 2 * (ge.sEnd : Int) ≤ 5 * r then 0 else min 65535 (e0 + pr.advance))) →
        (u.prot f).rise =
          (if ge.nRate ≤ c ∨ ((ge.dISet : Int) ≤ pr.value - iStart ∧ ge.nDly ≤ n) ∨ ge.nEnd ≤ e ∨ ge.nWindow < n
            then .quiet else .rising iStart n c e) ∧
        ((s.prot f).demand = none → (s.feeder f).state = .closed ∨ (s.feeder f).state = .closing →
          (ge.nRate ≤ c → ∃ d, (u.prot f).demand = some d ∧ Cause.didt ∈ d.causes) ∧
          ((ge.dISet : Int) ≤ pr.value - iStart → ge.nDly ≤ n →
            ∃ d, (u.prot f).demand = some d ∧ Cause.deltaI ∈ d.causes)))

/-- A presented line voltage starts the undervoltage timer below U_min and stops it and clears the condition at or above
it, while the function is armed (R36); while it is not, and the feeder does not wait for its remote end, nothing of the
feeder changes. In REMOTE_WAIT with the link UP, the remote end FED and the line live, the feeder closes (R90). -/
def Obligations.LineVoltagePresentationTimesUndervoltage : Prop :=
  ∀ (f : Fin 8) (s : State) (pr : Presentation), nextFor (.line f) s = some pr → inService s f = true →
    s.img.feeders[f].linePoint = pr.point →
    ∃ t, exec (.lineVoltagePresentation f) s = .next t ∧
      t.msu = { s.msu with presentations := s.msu.presentations.eraseP fun x => decide (x.target = .line f) } ∧
      ((s.feeder f).state ≠ .remoteWait →
        t = { s with msu := t.msu, fpr := t.fpr, recs := t.recs } ∧ (∀ g, g ≠ f → t.prot g = s.prot g) ∧
        (uvArmed s f = false → t.fpr = s.fpr) ∧
        (uvArmed s f = true → (activeSettings s f).uMin ≤ pr.value →
          t.prot f = { s.prot f with uvTimer := none, uvCondition := false }) ∧
        (uvArmed s f = true → pr.value < (activeSettings s f).uMin →
          t.prot f = { s.prot f with
            uvTimer := match (s.prot f).uvTimer with
              | some t0 => some t0
              | none => some s.now })) ∧
      ((s.feeder f).state = .remoteWait → sectionLinkUp s f = true → remoteEnd s f = .fed → lineLive s f = true →
        (s.feeder f).mask = false → (s.feeder f).permit = false → controlFull s.rp = false →
        (t.feeder f).state = .closing ∧ (t.feeder f).cls = some .reclose ∧
        (t.feeder f).stateTimer = some s.now ∧
        ((t.slot (slotOf s.img f)).breakerCmd.map (·.cmd)) = some .close)

/-- t_uv of the active group reached: the condition is set, the timer stops, and LINE_UNDERVOLTAGE is logged and latched
(R36). t_loss reached: the timer stops, and with trip_on_loss a demand of cause MEAS_LOSS alone is raised where the
feeder's state and its demand in hand allow it (R39, R42). -/
def Obligations.ProtectionTimersExpire : Prop :=
  (∀ (f : Fin 8) (s : State) (t0 : Nat), (s.prot f).uvTimer = some t0 →
    ∃ t, exec (.undervoltageTimerExpiry f) s = .next t ∧
      t = { s with now := t.now, mgt := t.mgt, fpr := t.fpr, recs := t.recs } ∧
      t.now = max s.now (t0 + 1000 * (activeSettings s f).tUv) ∧
      t.fpr = s.fpr.set f { s.prot f with uvTimer := none, uvCondition := true } ∧
      LoggedOne s t (.feeder f) .lineUndervoltage
        { voltage := pointValue s s.img.feeders[f].linePoint, group := some (activeGroup s f) } ∧
      (alarmActive s .lineUndervoltage = false → latchSet t .lineUndervoltage = true)) ∧
  (∀ (f : Fin 8) (s : State) (t0 : Nat), (s.prot f).lossTimer = some t0 →
    ∃ t, exec (.lossTimerExpiry f) s = .next t ∧
      t = { s with now := t.now, mgt := t.mgt, fpr := t.fpr } ∧
      t.now = max s.now (t0 + 1000 * s.img.feeders[f].tLoss) ∧
      t.fpr = s.fpr.set f { s.prot f with
        lossTimer := none
        demand :=
          if s.img.feeders[f].tripOnLoss = true ∧ (s.prot f).demand = none ∧
              ((s.feeder f).state = .closed ∨ (s.feeder f).state = .closing) then
            some { causes := [.measLoss], current := pointValue s s.img.feeders[f].currentPoint,
                   group := activeGroup s f, time := t.mgt.time, timeSet := t.mgt.timeSet }
          else (s.prot f).demand })

/-! ### Rectifier control -/

/-- An evaluation in REGULATING or LIMITING with the group's own current below I_rect_max (R50 to R54): the
regulator's six steps, the current-limit demand, the output demand and state, the integrator, the firing angle, and
both setpoints, the one for gate unit A placed first, which is the model's choice (notes/assumptions/40.md). Each
holds FIRE and the angle with the group breaker reported CLOSED, and BLOCK otherwise (R55), and stands alone for its
unit where CONTROL is kept (R141). That a gate unit is its address is the model's choice (notes/assumptions/35.md). -/
def Obligations.RectifierEvaluationRegulates : Prop :=
  ∀ (s : State) (pr : Presentation) (e : RectEntry) (i vRef err dRaw dReg dCl : Int), nextFor .rectifier s = some pr →
    s.img.rect.busPoint = pr.point → e = s.img.rect → i = presentedCurrent pr s → i < (e.iRectMax : Int) →
    s.rct.state = .regulating ∨ s.rct.state = .limiting →
    vRef = max 0 (min (e.vDi0 : Int) ((e.vSet : Int) - i * e.rDroop / 1000)) →
    err = max (-32767) (min 32767 (vRef - pr.value)) →
    dRaw = (vRef * 1024 + (e.vDi0 : Int) / 2) / e.vDi0 + e.kP * err / 256 + s.rct.xi / 65536 →
    dReg = max (e.dMin : Int) (min (e.dMax : Int) dRaw) →
    dCl = (if s.rct.groupPos = some .closed then
        (if (e.iLim : Int) < i then max (e.dMin : Int) (s.rct.dCl - -(-((i - e.iLim) * e.kCl) / 256))
          else min (e.dMax : Int) (s.rct.dCl + e.rampCl))
      else s.rct.dCl) →
    ∃ u, exec .rectifierEvaluation s = .next (latchRises s (arbitrate u)) ∧
      u = { s with msu := u.msu, rct := u.rct, rp := u.rp } ∧
      u.msu = { s.msu with presentations := s.msu.presentations.eraseP fun x => decide (x.target = .rectifier) } ∧
      u.rct = { s.rct with
        dReg := dReg, vRef := vRef, err := err, vBus := pr.value, iRect := i, dCl := dCl, held := none, busLoss := none
        out := some (min dReg dCl), alpha := some (firingAngle s.img (min dReg dCl))
        state := if dCl < dReg then .limiting else .regulating
        xi := if dReg ≤ dCl ∧ ¬(((e.dMax : Int) < dRaw ∧ 0 < err) ∨ (dRaw < (e.dMin : Int) ∧ err < 0)) then
            max (-16777216) (min 16777216 (s.rct.xi + e.kI * err))
          else s.rct.xi } ∧
      u.rp = (sendSetpoints { s with rct := u.rct }).rp ∧
      (ControlKept s.rp.control → SetpointsSent
        (if s.rct.groupPos = some .closed then gateFire (firingAngle s.img (min dReg dCl)) else gateBlock) s u)

/-- An evaluation outside REGULATING and LIMITING, by the state (R53, R61, R65): no demand in STOPPED, TRIPPED and
WAIT_BREAKER; the start ramp; the restore ramp; PHASE_BACK held at d_pb while the current stays below I_rect_max; and,
where the group's own current reaches I_rect_max while it fires, PHASE_BACK at d_pb with the ramps stopped, PHASE_BACK
logged and its capture trigger presented (R63, R170). The end of a ramp logs RECT_RUNNING or RECT_RESTORED and no
other event. In every state d_cl moves while the group fires and stands otherwise (R52), the integrator stands unless
the state reached is REGULATING (R51), and both gate units get FIRE with the angle while it fires and BLOCK otherwise
(R55). That the evaluation which ends a ramp in REGULATING already integrates is the model's choice
(notes/assumptions/17.md). That a gate unit is its address is the model's choice (notes/assumptions/35.md). -/
def Obligations.RectifierEvaluationFollowsTheState : Prop :=
  ∀ (s : State) (pr : Presentation) (e : RectEntry) (g : Regulated), nextFor .rectifier s = some pr →
    s.img.rect.busPoint = pr.point → e = s.img.rect → g = regulate e s.rct.xi pr.value (presentedCurrent pr s) →
    ∃ u, exec .rectifierEvaluation s = .next (latchRises s (arbitrate u)) ∧ u.now = s.now ∧ u.img = s.img ∧
      u.mgt = s.mgt ∧ u.sco = s.sco ∧ u.rct.dReg = g.dReg ∧ u.rct.vBus = pr.value ∧ u.rct.held = none ∧
      u.rct.dCl =
        (if running s.rct.state = true ∧ s.rct.groupPos = some .closed then
          (if (e.iLim : Int) < presentedCurrent pr s then
            max (e.dMin : Int) (s.rct.dCl - -(-((presentedCurrent pr s - e.iLim) * e.kCl) / 256))
          else min (e.dMax : Int) (s.rct.dCl + e.rampCl))
        else s.rct.dCl) ∧
      u.rct.xi =
        (if u.rct.state = .regulating ∧
            ¬(((e.dMax : Int) < g.dRaw ∧ 0 < g.err) ∨ (g.dRaw < (e.dMin : Int) ∧ g.err < 0)) then
          max (-16777216) (min 16777216 (s.rct.xi + e.kI * g.err))
        else s.rct.xi) ∧
      (ControlKept s.rp.control →
        (∀ alpha, running u.rct.state = true → s.rct.groupPos = some .closed → u.rct.alpha = some alpha →
          SetpointsSent (gateFire alpha) s u) ∧
        (running u.rct.state = false ∨ s.rct.groupPos ≠ some .closed → SetpointsSent gateBlock s u)) ∧
      (s.rct.state = .stopped ∨ s.rct.state = .tripped ∨ s.rct.state = .waitBreaker →
        u.rct.state = s.rct.state ∧ u.rct.out = none ∧ u.rct.alpha = none) ∧
      (∀ ss, s.rct.state = .ramp → s.rct.dSs = some ss →
        s.rct.groupPos ≠ some .closed ∨ presentedCurrent pr s < (e.iRectMax : Int) →
        u.rct.out = some (min g.dReg ss) ∧
        (g.dReg ≤ ss →
          u.rct.state = .regulating ∧ u.rct.dSs = none ∧ LoggedOne s u .rectifier .rectRunning {}) ∧
        (ss < g.dReg → u.recs = s.recs ∧ u.rct.state = .ramp ∧ u.rct.dSs = some (min (e.dMax : Int) (ss + e.rampStart)))) ∧
      (∀ rest dCl, s.rct.state = .restoring → s.rct.dRest = some rest → dCl = u.rct.dCl →
        s.rct.groupPos ≠ some .closed ∨ presentedCurrent pr s < (e.iRectMax : Int) →
        u.rct.out = some (min (min g.dReg dCl) rest) ∧
        (min g.dReg dCl ≤ rest →
          u.rct.state = (if dCl < g.dReg then .limiting else .regulating) ∧ u.rct.dRest = none ∧
          LoggedOne s u .rectifier .rectRestored {}) ∧
        (rest < min g.dReg dCl →
          u.recs = s.recs ∧ u.rct.state = .restoring ∧ u.rct.dRest = some (min (e.dMax : Int) (rest + e.rampRestore)))) ∧
      (s.rct.state = .phaseBack → s.rct.groupPos ≠ some .closed ∨ presentedCurrent pr s < (e.iRectMax : Int) →
        u.rct.state = .phaseBack ∧ u.rct.out = some (e.dPb : Int) ∧ u.rct.pbTimer = s.rct.pbTimer ∧
        u.rct.alpha = some (firingAngle s.img e.dPb)) ∧
      (running s.rct.state = true → s.rct.state ≠ .waitBreaker → s.rct.groupPos = some .closed →
        (e.iRectMax : Int) ≤ presentedCurrent pr s →
        u.rct.state = .phaseBack ∧ u.rct.out = some (e.dPb : Int) ∧ u.rct.pbTimer = some s.now ∧
        u.rct.alpha = some (firingAngle s.img e.dPb) ∧ u.rct.dSs = none ∧ u.rct.dRest = none ∧
        LoggedIn s u .rectifier .phaseBack
          { causes := [.cause .rectOvercurrent], current := some (presentedCurrent pr s) } ∧
        TriggerActs (if s.img.capture.maskPhaseBack then some .phaseBack else none) s u)

/-- The firing angle is the linear interpolation of the firing table rounded with ceiling (R54): at the tabled demands
it is the tabled angle, between two of them it is the least whole number at or above the line through them, and in a
non-increasing table a larger demand never gives a larger angle and every angle lies between the last and the first.
Whatever command runs, an evaluation, a held evaluation or a change of the in-use image among them, the angle in force
stays the angle of the output demand. -/
def Obligations.FiringAngleInterpolatesWithCeiling : Prop :=
  (∀ (m : Image) (j : Nat) (fr a b : Int), j < 32 → 0 ≤ fr → fr < 32 →
    a = (m.firing.toList.getD j 0 : Nat) → b = (m.firing.toList.getD (j + 1) 0 : Nat) →
    (fr = 0 → firingAngle m (32 * j + fr) = a) ∧
    (b - a) * fr ≤ 32 * (firingAngle m (32 * j + fr) - a) ∧
    32 * (firingAngle m (32 * j + fr) - a - 1) < (b - a) * fr) ∧
  (∀ m : Image, firingAngle m 1024 = (m.firing[(32 : Fin 33)] : Nat)) ∧
  (∀ (m : Image) (d1 d2 : Int), (∀ i j : Fin 33, i ≤ j → m.firing[j] ≤ m.firing[i]) →
    0 ≤ d1 → d1 ≤ d2 → d2 ≤ 1024 →
    firingAngle m d2 ≤ firingAngle m d1 ∧ (m.firing[(32 : Fin 33)] : Int) ≤ firingAngle m d2 ∧
    firingAngle m d1 ≤ (m.firing[(0 : Fin 33)] : Int)) ∧
  (∀ (c : Instr) (s t : State), s.rct.alpha = s.rct.out.map (firingAngle s.img) → exec c s = .next t →
    t.rct.alpha = t.rct.out.map (firingAngle t.img))

/-- A held evaluation, while the bus voltage point has no presented value (R59): 1 ms of elapsed time at most. With
the group's current below I_rect_max, or in a state in which it does not fire or waits for its breaker, the demand is
held, the angle recomputed, and both setpoints sent. With the current at or above it while it fires, step 3 phases the
rectifier back (R53, R63): PHASE_BACK at d_pb with t_pb_max running from 0, the ramps stopped, and PHASE_BACK logged
with the current and its capture trigger presented (R170); with no test to abort, both setpoints are sent at the
phase-back and again at the end of the held evaluation. Each holds FIRE and the angle while the group fires, and BLOCK
otherwise (R55). That the setpoint for gate unit A is placed first is the model's choice (notes/assumptions/40.md).
That a gate unit is its address is the model's choice (notes/assumptions/35.md). -/
def Obligations.HeldEvaluationHoldsTheDemand : Prop :=
  (∀ (s : State) (t0 : Nat), s.rct.held = some t0 → busLost s = true →
    firing s.rct = false ∨ s.rct.state = .waitBreaker ∨ rectCurrent s < (s.img.rect.iRectMax : Int) →
    ∃ t, exec .heldEvaluation s = .next t ∧ t = { s with now := t.now, mgt := t.mgt, rct := t.rct, rp := t.rp } ∧
      t.now = max s.now (t0 + 1000) ∧
      t.rct = { s.rct with held := some (t0 + 1000), alpha := s.rct.out.map (firingAngle s.img) } ∧
      t.rp = (sendSetpoints { s with rct := t.rct }).rp ∧
      (ControlKept s.rp.control →
        (∀ d, firing s.rct = true → s.rct.out = some d → SetpointsSent (gateFire (firingAngle s.img d)) s t) ∧
        (firing s.rct = false → SetpointsSent gateBlock s t))) ∧
  (∀ (s : State) (t0 : Nat), s.rct.held = some t0 → busLost s = true → running s.rct.state = true →
    s.rct.state ≠ .waitBreaker → s.rct.groupPos = some .closed → (s.img.rect.iRectMax : Int) ≤ rectCurrent s →
    ∃ t, exec .heldEvaluation s = .next t ∧ t.now = max s.now (t0 + 1000) ∧
      t.rct = { s.rct with
        state := .phaseBack, out := some (s.img.rect.dPb : Int), alpha := some (firingAngle s.img s.img.rect.dPb)
        dSs := none, dRest := none, pbTimer := some t.now, held := some (t0 + 1000) } ∧
      t.msu = s.msu ∧ t.sco = s.sco ∧ t.sst = s.sst ∧ t.pending = s.pending ∧
      eventOf s t .rectifier .phaseBack { causes := [.cause .rectOvercurrent], current := some (rectCurrent s) } ∈
        t.recs.log ∧
      (ControlKept s.rp.control → SetpointsSent (gateFire (firingAngle s.img s.img.rect.dPb)) s t) ∧
      TriggerActs (if s.img.capture.maskPhaseBack then some .phaseBack else none) s t ∧
      (s.ltu.circuit ≠ .settling → s.ltu.circuit ≠ .measuring →
        t.ltu = s.ltu ∧ t.fsq = s.fsq ∧ t.rp = (sendSetpoints (sendSetpoints { s with rct := t.rct })).rp))

/-- 100 ms without the bus voltage and 20 ms without a SYNC report trip a rectifier that is not yet TRIPPED: no
demand, no angle, its timers stopped, the cause kept, BLOCK sent to both gate units (R55), slot 8's breaker asked to
trip unless it reports OPEN or is not fitted, RECT_TRIP logged, and a capture trigger presented, which acts where the
mask names it (R57, R59, R66, R95, R170). That a gate unit is its address is the model's choice
(notes/assumptions/35.md). -/
def Obligations.BusLossAndSyncTimeoutsTrip : Prop :=
  ∀ (c : Instr) (cause : Cause) (t0 limit : Nat) (s : State), s.rct.state ≠ .tripped →
    (c = .busLossTimeout ∧ cause = .busMeas ∧ limit = 100000 ∧ s.rct.busLoss = some t0) ∨
      (∃ u : GateUnit, c = .syncTimeout u ∧ cause = .gateSync ∧ limit = 20000 ∧ (s.rct.gate u).sync = some t0) →
    ∃ t, exec c s = .next t ∧ t.now = max s.now (t0 + limit) ∧
      t.rct = { s.rct with
        state := .tripped, lastTrip := some cause, out := none, alpha := none, dSs := none, dRest := none,
        pbTimer := none, busLoss := none, gateA := { s.rct.gateA with sync := none },
        gateB := { s.rct.gateB with sync := none } } ∧
      t.msu = s.msu ∧ t.fpr = s.fpr ∧ t.sco = s.sco ∧ t.img = s.img ∧ t.pending = s.pending ∧
      TripFollows cause s t ∧
      latchSet t .rectTripped = true

/-- t_pb_max reached in PHASE_BACK: with the group's current at or above I_rect_max the rectifier trips with
PHASE_BACK_FAILED, with BLOCK to both gate units, slot 8 asked to trip, RECT_TRIP and its trigger (R66); below it, it
enters RESTORING at d_pb (R64). That the output demand and the angle of PHASE_BACK stand until the next evaluation is
the model's choice (notes/assumptions/17.md). That a gate unit is its address is the model's choice
(notes/assumptions/35.md). -/
def Obligations.PhaseBackTimeoutRestoresOrTrips : Prop :=
  ∀ (s : State) (t0 : Nat), s.rct.pbTimer = some t0 → s.rct.state = .phaseBack →
    ∃ t, exec .phaseBackTimeout s = .next t ∧ t.now = max s.now (t0 + 1000 * s.img.rect.tPbMax) ∧
      t.msu = s.msu ∧ t.sco = s.sco ∧ t.img = s.img ∧ t.rct.pbTimer = none ∧
      ((s.img.rect.iRectMax : Int) ≤ rectCurrent s →
        t.rct.state = .tripped ∧ t.rct.lastTrip = some .phaseBackFailed ∧ t.rct.out = none ∧
        TripFollows .phaseBackFailed s t) ∧
      (rectCurrent s < (s.img.rect.iRectMax : Int) →
        t.rct = { s.rct with state := .restoring, dRest := some (s.img.rect.dPb : Int), pbTimer := none })

/-- An accepted GATE_STATUS restarts the unit's silence timer and keeps its sync report; a SYNC restarts a running
sync timer; a misfire count is appended, and a sum of 3 or more trips the firing group (R56, R57, R58), with BLOCK to
both gate units, slot 8 asked to trip, RECT_TRIP and its trigger (R66). A unit that enters gate fault by a LOST report
is logged. That a gate unit is its address is the model's choice (notes/assumptions/35.md). -/
def Obligations.GateStatusIsTaken : Prop :=
  ∀ (f : RingFrame) (s : State) (u : GateUnit) (sync : Bool) (n : Nat) (r1 : Rect),
    gateOfAddress s.img f.src = some u → gateReport f = some (sync, n) → s.rct.state ≠ .tripped →
    r1 = ({ s.rct with frames := s.rct.frames.erase f }).setGate u
      { silence := some s.now, silent := false,
        sync := if sync = true ∧ (s.rct.gate u).sync.isSome = true then some s.now else (s.rct.gate u).sync,
        report := some sync } →
    ∃ t, exec (.gateStatus f) s = .next t ∧ t.now = s.now ∧ t.msu = s.msu ∧ t.fpr = s.fpr ∧ t.sco = s.sco ∧
      t.mgt = s.mgt ∧ t.img = s.img ∧
      (gateFault s.rct u = false → firing s.rct = true → sync = false →
        LoggedIn s t .rectifier .gateFault { causes := [.cause .lost], tag := some f.src.toNat }) ∧
      (n = 0 → t = { s with rct := r1, recs := t.recs }) ∧
      (1 ≤ n →
        t.rct.misfires = s.rct.misfires.drop (s.rct.misfires.length - 63) ++ [(s.now, n)] ∧
        (firing s.rct = true → 3 ≤ misfireSum t.rct.misfires →
          t.rct.state = .tripped ∧ t.rct.lastTrip = some .misfire ∧ t.rct.out = none ∧
          TripFollows .misfire s t) ∧
        (firing s.rct = false ∨ misfireSum t.rct.misfires < 3 →
          t = { s with rct := { r1 with misfires := t.rct.misfires }, recs := t.recs }))

/-- 5 ms without a status put a gate unit in gate fault, latched (R56); the oldest misfire leaves the history once its
age exceeds 100 ms (R58). That it leaves at the first microsecond past that age, one entry for each command, is the
model's choice (notes/assumptions/17.md). -/
def Obligations.GateSilenceAndMisfireAge : Prop :=
  (∀ (u : GateUnit) (s : State) (t0 : Nat), (s.rct.gate u).silence = some t0 →
    ∃ t, exec (.gateSilenceTimeout u) s = .next t ∧
      t = { s with now := t.now, mgt := t.mgt, rct := t.rct, recs := t.recs } ∧ t.now = max s.now (t0 + 5000) ∧
      t.rct = s.rct.setGate u { s.rct.gate u with silence := none, silent := true } ∧
      alarmActive t .gateFault = true ∧ (alarmActive s .gateFault = false → latchSet t .gateFault = true) ∧
      (gateFault s.rct u = false → LoggedOne s t .rectifier .gateFault
        { causes := [.cause .silent], tag := some (gateAddress s.img u).toNat })) ∧
  (∀ (s : State) (m : Nat × Nat) (rest : List (Nat × Nat)), s.rct.misfires = m :: rest →
    ∃ t, exec .misfireAgeExpiry s = .next t ∧ t = { s with now := t.now, mgt := t.mgt, rct := t.rct } ∧
      t.now = max s.now (m.1 + 100001) ∧ t.rct = { s.rct with misfires := rest })

/-! ### Feeder sequencing and the breaker protocol -/

/-- A status of a fitted slot is accepted (R73): its values become the slot's reported values, its freshness timer
restarts and position_unknown is cleared (R74); it is then acted on, up to LTU's look. An UNRESOLVED feeder resolves
(R78), OPENING ends (R86), CLOSING ends in CLOSED (R80), an OPEN report takes a CLOSED feeder to OPEN or is a
self-trip with FEEDER_TRIP and its capture trigger (R85), and CLOSED outside an open watch is an uncommanded close and
within one the late close that changes nothing (R80, R89). The contactor's report ends CONNECTING (R106), drops a test
out (R107, R115), ends DISCONNECTING with its outcome (R112), which FSQ takes by the feeder's class, mask, work
permit, shots and live permission (R88), and is a stray contactor (R114). Slot 8's report drives its command state
(R95) and is presented to the rectifier (R62, R67), which sends FIRE at the start of its ramp and BLOCK at its trip to
both gate units and presents the trigger of a trip (R66). In every state that keeps ServiceKept. A CLOSED report in
UNRESOLVED with an open watch running, and a contactor reported ON in OUT_OF_SERVICE, are taken as
notes/assumptions/33.md and 32.md choose. The auto-start clause reads the setting kept from the arming at the cold
reset, and not the in-use table's as it stands at the first status (R62, R69): that is the model's choice
(notes/assumptions/17.md). The moments at which CONNECTING and DISCONNECTING end are read from the rules
(notes/assumptions/16.md). A tested slot that no feeder names is presented to LTU all the same (R74), and a status of
the slot of a DISABLED feeder drives nothing else (R73), that slot being taken as notes/assumptions/43.md says. A
CLOSE left behind by a self-trip stays outstanding (R75), as notes/assumptions/45.md reads its limit. That a gate unit
is its address is the model's choice (notes/assumptions/35.md). -/
def Obligations.BreakerStatusIsAccepted : Prop :=
  ∀ (fr : RingFrame) (s : State) (k : Fin 9) (r : StatusReport), ServiceKept s →
    slotOfAddress s.img fr.src = some k → statusOf fr = some r →
    ∃ u, exec (.breakerStatus fr) s = .next (latchRises s (arbitrate u)) ∧
      u.now = s.now ∧ u.msu = s.msu ∧ u.img = s.img ∧ u.mgt = s.mgt ∧ u.pending = s.pending ∧
      u.fsq.frames = s.fsq.frames.erase fr ∧
      (u.slot k).report = some r ∧ (u.slot k).statusSeen = true ∧ (u.slot k).unknown = false ∧
      (u.slot k).freshness = some s.now ∧
      (∀ j, j ≠ k → (u.slot j).report = (s.slot j).report ∧ (u.slot j).freshness = (s.slot j).freshness) ∧
      (∀ f, k ≠ 8 → feederOfSlot s.img k = some f →
        ((s.feeder f).state = .unresolved → r.position = .closed →
          (u.feeder f).state = .closed ∧ (u.feeder f).lockoutFlag = false) ∧
        ((s.feeder f).state = .unresolved → r.position = .opened →
          (u.feeder f).state = (if (s.feeder f).lockoutFlag then .lockout else .opened)) ∧
        ((s.feeder f).state = .unresolved → r.position = .moving ∨ r.position = .fault →
          (u.feeder f).state = .unresolved) ∧
        ((s.feeder f).state = .opening → r.position = .opened → (u.feeder f).state = .opened) ∧
        ((s.feeder f).state = .closed → r.position = .opened → r.selfTrip = false →
          (s.slot k).report.map (·.position) ≠ some .opened →
          (u.feeder f).state = .opened ∧ (u.feeder f).reclaim = none ∧
          (u.feeder f).shots = s.img.feeders[f].shots) ∧
        (∀ within, (s.feeder f).state = .closed ∨ (s.feeder f).state = .closing → r.position = .opened →
          r.selfTrip = true →
          ((s.feeder f).state = .closed → (s.slot k).report.map (·.position) ≠ some .opened) →
          within = (decide ((s.feeder f).state = .closing) || (s.feeder f).reclaim.isSome) →
          (u.feeder f).state =
            (if (s.feeder f).permit = true ∨ (within = true ∧ (s.feeder f).recloseActive = false) ∨
                (s.feeder f).shots = 0 then .lockout else .deadTime) ∧
          (u.feeder f).trips = min top32 ((s.feeder f).trips + 1) ∧
          (u.feeder f).lastTrip = some
            { causes := [.selfTrip], current := pointValue s s.img.feeders[f].currentPoint, group := activeGroup s f,
              time := s.mgt.time, timeSet := s.mgt.timeSet } ∧
          u.rct = s.rct ∧ u.sco = s.sco ∧
          LoggedIn s u (.feeder f) .feederTrip
            { causes := [.cause .selfTrip], current := pointValue s s.img.feeders[f].currentPoint,
              group := some (activeGroup s f), shot := some (s.img.feeders[f].shots - (s.feeder f).shots) } ∧
          TriggerActs (if s.img.capture.maskTrip then some .protectionTrip else none) s u ∧
          (((s.slot k).breakerCmd.map (·.cmd)) = some .close →
            ((u.slot k).breakerCmd.map (fun c => (c.cmd, c.tag))) =
              (s.slot k).breakerCmd.map (fun c => (c.cmd, c.tag)))) ∧
        ((s.feeder f).state = .closing → r.position = .closed →
          (u.feeder f).state = .closed ∧ (u.feeder f).closes = min top32 ((s.feeder f).closes + 1) ∧
          (u.feeder f).reclaim = some s.now) ∧
        ((s.feeder f).state = .opened ∨ (s.feeder f).state = .testWait ∨ (s.feeder f).state = .testing ∨
            (s.feeder f).state = .deadTime ∨ (s.feeder f).state = .remoteWait ∨ (s.feeder f).state = .lockout →
          r.position = .closed → (s.slot k).openWatch = none →
          (u.feeder f).state = .closed ∧ (u.feeder f).shots = s.img.feeders[f].shots ∧
          (u.feeder f).recloseActive = false ∧ (u.feeder f).reclaim = none ∧ (u.feeder f).stateTimer = none ∧
          (u.feeder f).lockoutFlag = false ∧ (u.feeder f).closes = (s.feeder f).closes) ∧
        ((s.feeder f).state = .opened ∨ (s.feeder f).state = .deadTime ∨ (s.feeder f).state = .lockout →
          r.position = .closed → (s.slot k).openWatch ≠ none → (u.feeder f).state = (s.feeder f).state) ∧
        (∀ j : Fin 8, k = j.castSucc → r.position = .closed → (s.slot k).openWatch ≠ none →
          ((s.feeder f).state = .remoteWait → (u.feeder f).state = .remoteWait) ∧
          ((s.feeder f).state = .testWait → testedSlot s j = false ∨ s.ltu.circuit ≠ .disconnecting →
            (u.feeder f).state = .testWait) ∧
          ((s.feeder f).state = .testing →
            (testedSlot s j = false ∧ r.contactorOn = false) ∨
            (testedSlot s j = true ∧ s.ltu.circuit = .connecting ∧ r.contactorOn = false) ∨
            (testedSlot s j = true ∧ r.contactorOn = true ∧
              (s.ltu.circuit = .settling ∨ s.ltu.circuit = .measuring ∨ s.ltu.circuit = .disconnecting)) →
            (u.feeder f).state = .testing)) ∧
        (∀ (rec : TestRecord) (j : Fin 8), k = j.castSucc → s.ltu.record = some rec → rec.slot = j →
          rec.feeder = some f → (s.feeder f).state = .testing → r.position ≠ .closed →
          (s.ltu.circuit = .connecting → r.contactorOn = true →
            (∀ c, (s.slot k).contactorCmd = some c → c.tag = r.echoed) → regulates s.rct.state = true →
            defers s = false →
            u.ltu.circuit = .settling ∧ u.ltu.record = some { rec with stage := some s.now }) ∧
          (s.ltu.circuit = .settling ∨ s.ltu.circuit = .measuring → r.contactorOn = false →
            u.ltu.circuit = .outOfService ∧ u.ltu.record = none ∧ (u.feeder f).state = .testWait) ∧
          (s.ltu.circuit = .disconnecting → r.contactorOn = false → (s.slot k).report.any (·.contactorOn) = true →
            u.ltu.circuit = .idle ∧ u.ltu.record = none ∧
            (∀ m, rec.outcome = .result m → u.ltu.lastTest = some (f, m) ∧
              (m.result = .fail → (s.feeder f).cls = some .operator → (u.feeder f).state = .opened) ∧
              (m.result = .fail → (s.feeder f).cls = some .reclose →
                (0 < (s.feeder f).shots →
                  (u.feeder f).state = .deadTime ∧ (u.feeder f).shots = (s.feeder f).shots - 1 ∧
                  (u.feeder f).stateTimer = some s.now ∧
                  (u.feeder f).deadIndex = some (s.img.feeders[f].shots - ((s.feeder f).shots - 1))) ∧
                ((s.feeder f).shots = 0 → (u.feeder f).state = .lockout ∧ (u.feeder f).lockoutFlag = true)) ∧
              (m.result = .live ∨ m.result = .noCurrent → livePermission s f = false →
                (u.feeder f).state = .opened ∧ latchSet u .liveSourceUnknown = true) ∧
              (m.result = .pass ∨ ((m.result = .live ∨ m.result = .noCurrent) ∧ livePermission s f = true) →
                ((s.feeder f).mask = false → (s.feeder f).permit = false → controlFull s.rp = false →
                  (u.feeder f).state = .closing ∧ (u.feeder f).stateTimer = some s.now ∧
                  (∀ c, (s.feeder f).cls = some c → (u.feeder f).cls = some c) ∧
                  ((u.slot k).breakerCmd.map (·.cmd)) = some .close) ∧
                ((s.feeder f).mask = true ∨ (s.feeder f).permit = true →
                  ((s.feeder f).cls = some .operator → (u.feeder f).state = .opened) ∧
                  ((s.feeder f).cls = some .reclose →
                    (u.feeder f).state = .deadTime ∧ (u.feeder f).deadElapsed = true ∧
                    (u.feeder f).stateTimer = none ∧ (u.feeder f).shots = (s.feeder f).shots)))))) ∧
        (∀ j : Fin 8, k = j.castSucc → (s.feeder f).state = .opened → r.position ≠ .closed → r.contactorOn = true →
          testedSlot s j = false → contactorSlot s.img k = true →
          s.ltu.circuit ≠ .outOfService ∨ (s.slot k).report.any (·.contactorOn) = false →
          isStray u j = true ∧
          (testInProgress s.ltu.circuit = true → s.ltu.record ≠ none → isStray s j = false →
            testInProgress u.ltu.circuit = false))) ∧
      (k ≠ 8 → feederOfSlot s.img k = none → (∃ g, slotOf s.img g = k) →
        u.fsq.feeders = s.fsq.feeders ∧ u.ltu = s.ltu ∧ u.rct = s.rct ∧ u.rp = s.rp) ∧
      (∀ (rec : TestRecord) (j f : Fin 8), k = j.castSucc → (∀ g, slotOf s.img g ≠ k) → s.ltu.record = some rec →
        rec.slot = j → rec.feeder = some f → (s.feeder f).state = .testing →
        (s.ltu.circuit = .connecting → r.contactorOn = true →
          (∀ c, (s.slot k).contactorCmd = some c → c.tag = r.echoed) → regulates s.rct.state = true →
          defers s = false →
          u.ltu.circuit = .settling ∧ u.ltu.record = some { rec with stage := some s.now }) ∧
        (s.ltu.circuit = .settling ∨ s.ltu.circuit = .measuring → r.contactorOn = false →
          u.ltu.circuit = .outOfService ∧ u.ltu.record = none ∧ (u.feeder f).state = .testWait) ∧
        (s.ltu.circuit = .disconnecting → r.contactorOn = false → (s.slot k).report.any (·.contactorOn) = true →
          u.ltu.circuit = .idle ∧ u.ltu.record = none ∧
          ∀ m, rec.outcome = .result m → u.ltu.lastTest = some (f, m))) ∧
      (k = 8 →
        (r.position = .opened → s.fsq.groupState = .tripping ∨ s.fsq.groupState = .failed →
          s.rct.autoArmed = false → u.fsq.groupState = .idle) ∧
        (r.position = .closed → s.fsq.groupState = .closing → s.rct.autoArmed = false → u.fsq.groupState = .idle) ∧
        (r.position = .closed → s.rct.state = .waitBreaker → s.rct.groupPos ≠ some .closed →
          u.rct.state = .ramp ∧ u.rct.dSs = some (s.img.rect.dMin : Int) ∧
          (∀ g, (u.rct.gate g).sync = some s.now) ∧
          (ControlKept s.rp.control → SetpointsSent (gateFire (firingAngle s.img s.img.rect.dMin)) s u)) ∧
        (r.position = .fault → s.fsq.groupState = .closing → s.rct.state = .waitBreaker →
          s.rct.groupPos ≠ some .closed → controlFull s.rp = false →
          u.rct.state = .stopped ∧ u.fsq.groupState = .idle ∧ latchSet u .closeFail = true) ∧
        (r.position ≠ .closed → running s.rct.state = true → s.rct.state ≠ .waitBreaker →
          s.rct.groupPos = some .closed →
          u.rct.state = .tripped ∧ u.rct.lastTrip = some .groupBreakerOpen ∧ u.rct.out = none ∧
          (ControlKept s.rp.control → SetpointsSent gateBlock s u) ∧
          TriggerActs (if s.img.capture.maskRect then some .rectTrip else none) s u) ∧
        (s.rct.autoArmed = true → s.rct.autoStart = true → s.rct.state = .stopped → rectPointsInUse s = true →
          u.rct.autoArmed = false ∧ (r.position = .closed → u.rct.state = .ramp) ∧
          (r.position = .opened → s.fsq.groupState = .idle → controlFull s.rp = false →
            u.rct.state = .waitBreaker ∧ u.fsq.groupState = .closing)))

/-- OPEN reported in TRIPPING takes the trip outcome (R83): LOCKOUT with the work permit set, on MEAS_LOSS or OVERFLOW,
or within reclaim without a reclose; on INTERTRIP alone REMOTE_WAIT, at whose entry the link and the remote end count as
they stand (R90): OPEN with the link DOWN or the remote end HELD, a live-line close of reclose class with it FED, the
line live and the mask clear, and a wait otherwise; in the other cases DEAD_TIME with one shot fewer while shots remain,
and LOCKOUT with none. In every state that keeps ServiceKept. -/
def Obligations.OpenReportedInTrippingTakesTheTripOutcome : Prop :=
  ∀ (fr : RingFrame) (s : State) (k : Fin 9) (r : StatusReport) (f : Fin 8) (tr : TripRecord),
    ServiceKept s →
    slotOfAddress s.img fr.src = some k → statusOf fr = some r → k ≠ 8 → feederOfSlot s.img k = some f →
    (s.feeder f).state = .tripping → r.position = .opened → (s.feeder f).lastTrip = some tr →
    ∃ u, exec (.breakerStatus fr) s = .next (latchRises s (arbitrate u)) ∧
      ((s.feeder f).permit = true ∨ Cause.measLoss ∈ tr.causes ∨ Cause.overflow ∈ tr.causes →
        (u.feeder f).state = .lockout ∧ (u.feeder f).lockoutFlag = true) ∧
      ((s.feeder f).permit = false → tr.causes = [.intertrip] → sectionLinkUp s f = true →
        remoteEnd s f ≠ .fed → remoteEnd s f ≠ .held →
        (u.feeder f).state = .remoteWait ∧ (u.feeder f).stateTimer = some s.now) ∧
      (∀ i, (s.feeder f).permit = false → tr.causes = [.intertrip] → sectionOf s.img f = some i →
        ((s.link s.img.sections[i].port).up = false → (u.feeder f).state = .opened) ∧
        ((s.link s.img.sections[i].port).up = true → s.sco.sections[i].remote = .held →
          (u.feeder f).state = .opened) ∧
        ((s.link s.img.sections[i].port).up = true → s.sco.sections[i].remote = .fed →
          (lineLive s f = true → (s.feeder f).mask = false → controlFull s.rp = false →
            (u.feeder f).state = .closing ∧ (u.feeder f).cls = some .reclose ∧
            (u.feeder f).stateTimer = some s.now ∧ (u.feeder f).shots = (s.feeder f).shots ∧
            ((u.slot k).breakerCmd.map (·.cmd)) = some .close) ∧
          (lineLive s f = false ∨ (s.feeder f).mask = true →
            (u.feeder f).state = .remoteWait ∧ (u.feeder f).stateTimer = some s.now))) ∧
      ((s.feeder f).permit = false → Cause.measLoss ∉ tr.causes → Cause.overflow ∉ tr.causes →
        tr.causes ≠ [.intertrip] →
        ((s.feeder f).withinReclaim = true → (s.feeder f).recloseActive = false → (u.feeder f).state = .lockout) ∧
        ((s.feeder f).withinReclaim = false ∨ (s.feeder f).recloseActive = true →
          (0 < (s.feeder f).shots →
            (u.feeder f).state = .deadTime ∧ (u.feeder f).shots = (s.feeder f).shots - 1 ∧
            (u.feeder f).stateTimer = some s.now ∧
            (u.feeder f).deadIndex = some (s.img.feeders[f].shots - ((s.feeder f).shots - 1))) ∧
          ((s.feeder f).shots = 0 → (u.feeder f).state = .lockout))) ∧
      (s.rct.state = .phaseBack → (∀ g, g ≠ f → (s.feeder g).state ≠ .tripping) → u.rct.state = .restoring)

/-- 20 ms without a status set a slot's position_unknown and log STATUS_LOST with the reported values kept, and 100 ms
after the cold reset a slot without a status counts as unresolved (R74). -/
def Obligations.MissingStatusesAreNoticed : Prop :=
  (∀ (k : Fin 9) (s : State) (t0 : Nat), (s.slot k).freshness = some t0 →
    ∃ t, exec (.slotFreshnessTimeout k) s = .next t ∧
      t = { s with now := t.now, mgt := t.mgt, fsq := t.fsq, recs := t.recs } ∧ t.now = max s.now (t0 + 20000) ∧
      t.fsq = { s.fsq with slots := s.fsq.slots.set k { s.slot k with freshness := none, unknown := true } } ∧
      LoggedOne s t (.slot k) .statusLost {} ∧
      (configured s.img k = true → alarmActive s .breakerUnresolved = false →
        latchSet t .breakerUnresolved = true)) ∧
  (∀ s : State,
    ∃ t, exec .noStatusTimeout s = .next t ∧
      t = { s with now := t.now, mgt := t.mgt, fsq := { s.fsq with noStatusDue := true }, recs := t.recs } ∧
      t.now = max s.now 100000 ∧ t.recs = { s.recs with latched := t.recs.latched } ∧
      (∀ k : Fin 9, configured s.img k = true → (s.slot k).statusSeen = false →
        alarmActive t .breakerUnresolved = true))

/-- A command whose echo timer reaches 10 ms is lost: it is no longer outstanding, COMMAND_LOST is latched and logged
with the slot, the command and its tag, and its issuer takes the failure branch from there (R76). A lost CLOSE in
CLOSING is a failed close: OPEN issued with its open watch, CLOSE_FAIL, and by the class OPEN, the next shot or LOCKOUT
(R80). A lost OPEN under its watch, in OPENING, or lost at once for a full CONTROL queue, is BREAKER_FAIL (R80, R86). A
lost TEST_ON in CONNECTING, TEST_OFF in DISCONNECTING and TEST_OFF of a stray contactor take the circuit OUT_OF_SERVICE,
with the feeder in TESTING requeued (R106, R112, R114, R115, R102). On slot 8 a lost CLOSE returns to IDLE and the
rectifier that waits to STOPPED, and a lost OPEN under its watch is FAILED (R95, R60). Elsewhere the loss changes no
feeder; that a lost OPEN to a slot without a feeder in service ends its watch is the model's choice
(notes/assumptions/37.md), and so are the tag field that carries the slot of TEST_CIRCUIT_FAULT and the place of that
event as the last of the log (notes/assumptions/15.md). An outstanding TRIP is placed in the TRIP queue again with its
own tag 1 ms after it was last placed (R77), where it replaces a copy still queued for its slot (R142). -/
def Obligations.CommandsAreLostAndTripsRepeated : Prop :=
  (∀ (k : Fin 9) (g : CmdGroup) (s : State) (c : Command) (t0 : Nat), outstanding (s.slot k) g = some c →
    cmdGroup c.cmd = g → c.echo = some t0 →
    ∃ u, exec (.commandLost k g) s = .next (latchRises s (failureBranch k c.cmd c.tag.toNat u)) ∧
      u = { s with now := u.now, mgt := u.mgt, fsq := u.fsq, recs := u.recs } ∧ u.now = max s.now (t0 + 10000) ∧
      u.fsq = { s.fsq with slots := s.fsq.slots.set k (u.slot k) } ∧
      (g = .breaker → u.slot k = { s.slot k with breakerCmd := none }) ∧
      (g = .contactor → u.slot k = { s.slot k with contactorCmd := none }) ∧
      LoggedOne s u (.slot k) .commandLost { tag := some c.tag.toNat, number := some (cmdCode c.cmd) } ∧
      latchSet u .commandLost = true ∧
      (c.cmd = .testOff → (∀ j : Fin 8, k = j.castSucc → testedSlot s j = false ∧ isStray s j = false) →
        exec (.commandLost k g) s = .next (latchRises s u))) ∧
  (∀ (k : Fin 9) (s : State) (c : Command) (t0 n : Nat), outstanding (s.slot k) (cmdGroup c.cmd) = some c →
    c.echo = some t0 → n = max s.now (t0 + 10000) →
    ∃ t, exec (.commandLost k (cmdGroup c.cmd)) s = .next t ∧ t.now = n ∧ t.msu = s.msu ∧ t.img = s.img ∧
      t.pending = s.pending ∧ (k ≠ 8 → t.rct = s.rct) ∧
      (∀ (j f : Fin 8), k = j.castSucc → feederOfSlot s.img k = some f →
        (c.cmd = .close → (s.feeder f).state = .closing →
          latchSet t .closeFail = true ∧
          (controlFull s.rp = false →
            ((t.slot k).breakerCmd.map (·.cmd)) = some .open ∧ (t.slot k).openWatch = some n ∧
            ((s.feeder f).cls ≠ some .reclose → (t.feeder f).state = .opened) ∧
            ((s.feeder f).cls = some .reclose →
              (0 < (s.feeder f).shots →
                (t.feeder f).state = .deadTime ∧ (t.feeder f).shots = (s.feeder f).shots - 1 ∧
                (t.feeder f).stateTimer = some n ∧
                (t.feeder f).deadIndex = some (s.img.feeders[f].shots - ((s.feeder f).shots - 1))) ∧
              ((s.feeder f).shots = 0 → (t.feeder f).state = .lockout ∧ (t.feeder f).lockoutFlag = true))) ∧
          (controlFull s.rp = true →
            (t.feeder f).state = .breakerFail ∧ (t.feeder f).lockoutFlag = true ∧ (t.slot k).openWatch = none ∧
            (t.slot k).breakerCmd = none)) ∧
        (c.cmd = .open → (s.slot k).openWatch ≠ none ∨ (s.feeder f).state = .opening →
          (t.feeder f).state = .breakerFail ∧ (t.feeder f).lockoutFlag = true ∧ (t.slot k).openWatch = none ∧
          (t.slot k).breakerCmd = none ∧
          (latchSet t .breakerFail = true ∨ alarmActive s .breakerFail = true)) ∧
        ((c.cmd = .close ∧ (s.feeder f).state ≠ .closing) ∨
            (c.cmd = .open ∧ (s.slot k).openWatch = none ∧ (s.feeder f).state ≠ .opening) →
          t.fsq.feeders = s.fsq.feeders)) ∧
      (k ≠ 8 → feederOfSlot s.img k = none → c.cmd = .close ∨ c.cmd = .open →
        t.fsq.feeders = s.fsq.feeders ∧ (c.cmd = .open → (t.slot k).openWatch = none)) ∧
      (∀ (j : Fin 8) (fault : Nat), k = j.castSucc →
        (c.cmd = .testOn ∧ testedSlot s j = true ∧ s.ltu.circuit = .connecting ∧ fault = 1) ∨
          (c.cmd = .testOff ∧ testedSlot s j = true ∧ s.ltu.circuit = .disconnecting ∧ fault = 3) ∨
          (c.cmd = .testOff ∧ (testedSlot s j = false ∨ s.ltu.circuit ≠ .disconnecting) ∧ isStray s j = true ∧
            s.ltu.circuit ≠ .outOfService ∧ fault = 4) →
        t.ltu.circuit = .outOfService ∧ t.ltu.record = none ∧ t.ltu.strays = s.ltu.strays ∧
        latchSet t .testCircuitFault = true ∧
        t.recs.log.getLast?.map (fun e => (e.source, e.kind, e.detail)) =
          some (.testCircuit, .testCircuitFault, { tag := some j.val, number := some fault }) ∧
        (∀ (r : TestRecord) (f : Fin 8), s.ltu.record = some r → r.feeder = some f → (s.feeder f).state = .testing →
          (t.feeder f).state = .testWait ∧ (t.feeder f).cls = some r.cls ∧ (f, r.cls) ∈ t.ltu.queue)) ∧
      (k = 8 →
        (c.cmd = .close → s.fsq.groupState = .closing →
          latchSet t .closeFail = true ∧ t.fsq.groupTimer = none ∧
          (controlFull s.rp = false →
            t.fsq.groupState = .idle ∧ (t.slot 8).openWatch = some n ∧
            ((t.slot 8).breakerCmd.map (·.cmd)) = some .open) ∧
          (controlFull s.rp = true → t.fsq.groupState = .failed ∧ (t.slot 8).openWatch = none) ∧
          (s.rct.state = .waitBreaker → t.rct.state = .stopped ∧ t.rct.out = none) ∧
          (s.rct.state ≠ .waitBreaker → t.rct = s.rct)) ∧
        (c.cmd = .open → t.rct = s.rct ∧
          ((s.slot 8).openWatch ≠ none →
            t.fsq.groupState = .failed ∧ t.fsq.groupTimer = none ∧ (t.slot 8).openWatch = none ∧
            (t.slot 8).breakerCmd = none) ∧
          ((s.slot 8).openWatch = none → t.fsq.groupState = s.fsq.groupState)))) ∧
  (∀ (k : Fin 9) (s : State) (c : Command), (s.slot k).breakerCmd = some c → c.cmd = .trip →
    ∃ t, exec (.tripRepeat k) s = .next t ∧
      t = { s with now := t.now, mgt := t.mgt, fsq := t.fsq, rp := t.rp } ∧ t.now = max s.now (c.sentAt + 1000) ∧
      t.fsq = { s.fsq with slots := s.fsq.slots.set k { s.slot k with breakerCmd := some { c with sentAt := t.now } } } ∧
      t.rp = placeTrip k
        { dst := s.img.breakers[k].address, src := s.rp.own, kind := 2, payload := [3, c.tag] } s.rp ∧
      (s.rp.trip.any (fun e => decide (e.1 = k)) = true → s.rp.sending.isSome = true →
        t.rp.trip.length = s.rp.trip.length))

/-- t_close reached in CLOSING (R80): OPEN is issued to the feeder's slot with its open watch running, CLOSE_FAIL is
latched, and the feeder enters OPEN by an operator close, and by a reclose DEAD_TIME with the next shot or LOCKOUT. -/
def Obligations.CloseTimeoutFailsTheClose : Prop :=
  ∀ (f : Fin 8) (s : State) (t0 : Nat) (k : Fin 9), k = slotOf s.img f → (s.feeder f).state = .closing →
    (s.feeder f).stateTimer = some t0 → controlFull s.rp = false →
    ∃ t, exec (.closeTimeout f) s = .next t ∧ t.now = max s.now (t0 + 1000 * s.img.breakers[k].tClose) ∧
      t.msu = s.msu ∧ t.rct = s.rct ∧ t.sco = s.sco ∧ t.ltu = s.ltu ∧ t.img = s.img ∧
      (∀ g, g ≠ f → t.feeder g = s.feeder g) ∧
      (t.slot k).breakerCmd = some
        { cmd := .open, tag := (s.slot k).nextTag, echoed := false, sentAt := t.now, echo := some t.now } ∧
      (t.slot k).openWatch = some t.now ∧ (t.slot k).nextTag = (s.slot k).nextTag + 1 ∧
      t.rp = placeCommand
        { dst := s.img.breakers[k].address, src := s.rp.own, kind := 2, payload := [2, (s.slot k).nextTag] } s.rp ∧
      latchSet t .closeFail = true ∧ (t.feeder f).cls = none ∧
      ((s.feeder f).cls ≠ some .reclose →
        (t.feeder f).state = .opened ∧ (t.feeder f).shots = s.img.feeders[f].shots) ∧
      ((s.feeder f).cls = some .reclose → 0 < (s.feeder f).shots →
        (t.feeder f).state = .deadTime ∧ (t.feeder f).shots = (s.feeder f).shots - 1 ∧
        (t.feeder f).stateTimer = some t.now) ∧
      ((s.feeder f).cls = some .reclose → (s.feeder f).shots = 0 →
        (t.feeder f).state = .lockout ∧ (t.feeder f).lockoutFlag = true)

/-- t_bf reached without the OPEN report puts a feeder into BREAKER_FAIL with its lockout flag set and written: in
TRIPPING, where the rectifier is tripped as backup with what its trip brings, or logs a further RECT_TRIP in TRIPPED
(R66, R84), in OPENING (R86), and at the open watch after a failed close (R80). That a gate unit is its address is the
model's choice (notes/assumptions/35.md). -/
def Obligations.BreakerFailureIsDeclared : Prop :=
  ∀ (c : Instr) (f : Fin 8) (k : Fin 9) (s : State) (t0 : Nat), k = slotOf s.img f →
    (c = .breakerFail f ∧ (s.feeder f).state = .tripping ∧ (s.feeder f).stateTimer = some t0) ∨
      (c = .openingTimeout f ∧ (s.feeder f).state = .opening ∧ (s.feeder f).stateTimer = some t0) ∨
      (c = .openWatchExpiry s.img.feeders[f].slot ∧ feederOfSlot s.img k = some f ∧ (s.slot k).openWatch = some t0 ∧
        position s k ≠ some .opened) →
    ∃ t, exec c s = .next t ∧ t.now = max s.now (t0 + 1000 * s.img.breakers[k].tBf) ∧
      (t.feeder f).state = .breakerFail ∧ (t.feeder f).lockoutFlag = true ∧ t.msu = s.msu ∧ t.sco = s.sco ∧
      t.img = s.img ∧ (t.slot k).breakerCmd = none ∧
      (alarmActive s .breakerFail = false → latchSet t .breakerFail = true) ∧
      (s.sst.arbiter = .idle → t.sst.arbiter = .flags ∧ t.sst.flagsLockout[f] = true ∧ t.sst.flagsValid = false) ∧
      (s.sst.arbiter ≠ .idle → t.sst.flagsPending = true) ∧
      (c = .breakerFail f → s.rct.state ≠ .tripped →
        t.rct.state = .tripped ∧ t.rct.lastTrip = some .breakerFailBackup ∧ TripFollows .breakerFailBackup s t) ∧
      (c = .breakerFail f → s.rct.state = .tripped → t.rct = s.rct ∧
        LoggedIn s t .rectifier .rectTrip
          { causes := [.cause .breakerFailBackup], current := some (rectCurrent s), voltage := some s.rct.vBus }) ∧
      (c = .openingTimeout f ∨ c = .openWatchExpiry s.img.feeders[f].slot → t.rct = s.rct)

/-- The dead time elapsed: with the restart inhibit, the close mask and the work permit clear the feeder enters
TEST_WAIT with class RECLOSE and joins the test queue before the operator entries, and otherwise stays in DEAD_TIME
with its timer stopped, up to LTU's look (R87, R101). -/
def Obligations.DeadTimeEndAwaitsTheLineTest : Prop :=
  ∀ (f : Fin 8) (s : State) (t0 : Nat), (s.feeder f).state = .deadTime → (s.feeder f).stateTimer = some t0 →
    ∃ u, exec (.deadTimeEnd f) s = .next (latchRises s (arbitrate u)) ∧
      u = { s with now := u.now, mgt := u.mgt, fsq := u.fsq, ltu := u.ltu } ∧
      u.now = max s.now (t0 + 1000 * deadTime s.img.feeders[f] ((s.feeder f).deadIndex.getD 1)) ∧
      u.fsq = { s.fsq with feeders := s.fsq.feeders.set f (u.feeder f) } ∧
      ((s.prot f).inhibit = false → (s.feeder f).mask = false → (s.feeder f).permit = false →
        (u.feeder f).state = .testWait ∧ (u.feeder f).cls = some .reclose ∧ (u.feeder f).stateTimer = none ∧
        u.ltu = { s.ltu with queue := s.ltu.queue.filter (fun e => decide (e.2 = .reclose)) ++
          (f, .reclose) :: s.ltu.queue.filter (fun e => decide (e.2 = .operator)) }) ∧
      ((s.prot f).inhibit = true ∨ (s.feeder f).mask = true ∨ (s.feeder f).permit = true →
        u.feeder f = { s.feeder f with stateTimer := none } ∧ u.ltu = s.ltu)

/-- t_remote reached in REMOTE_WAIT puts the feeder in OPEN and logs REMOTE_TIMEOUT (R90); t_reclaim reached reloads the
shots, clears reclose active, and logs RECLAIM_END with the shot number from before (R85). -/
def Obligations.RemoteAndReclaimTimesEnd : Prop :=
  (∀ (f : Fin 8) (s : State) (t0 : Nat), (s.feeder f).state = .remoteWait → (s.feeder f).stateTimer = some t0 →
    ∃ t, exec (.remoteTimeout f) s = .next t ∧
      t = { s with now := t.now, mgt := t.mgt, fsq := t.fsq, recs := t.recs } ∧
      t.now = max s.now (t0 + 1000000 * s.img.feeders[f].tRemote) ∧
      t.fsq = { s.fsq with feeders := s.fsq.feeders.set f (t.feeder f) } ∧
      (t.feeder f).state = .opened ∧ (t.feeder f).shots = s.img.feeders[f].shots ∧ (t.feeder f).stateTimer = none ∧
      (t.feeder f).lastTrip = (s.feeder f).lastTrip ∧ LoggedOne s t (.feeder f) .remoteTimeout {}) ∧
  (∀ (f : Fin 8) (s : State) (t0 : Nat), (s.feeder f).reclaim = some t0 →
    ∃ t, exec (.reclaimEnd f) s = .next t ∧
      t = { s with now := t.now, mgt := t.mgt, fsq := t.fsq, recs := t.recs } ∧
      t.now = max s.now (t0 + 1000000 * s.img.feeders[f].tReclaim) ∧
      t.fsq = { s.fsq with feeders := s.fsq.feeders.set f { s.feeder f with
        reclaim := none, shots := s.img.feeders[f].shots, recloseActive := false } } ∧
      LoggedOne s t (.feeder f) .reclaimEnd { shot := some (s.img.feeders[f].shots - (s.feeder f).shots) })

/-- The group breaker's limits (R95): t_close in CLOSING fails the close with OPEN issued, slot 8 IDLE, and a
rectifier in WAIT_BREAKER back in STOPPED (R60); t_bf in TRIPPING, or at the open watch without an OPEN report, ends
in FAILED. That CLOSING runs on to its limit also where a switch has abandoned its CLOSE is the model's choice
(notes/assumptions/37.md). -/
def Obligations.GroupBreakerLimits : Prop :=
  (∀ (s : State) (t0 : Nat), s.fsq.groupState = .closing → s.fsq.groupTimer = some t0 → controlFull s.rp = false →
    ∃ t, exec .groupCloseTimeout s = .next t ∧ t.now = max s.now (t0 + 1000 * s.img.breakers[(8 : Fin 9)].tClose) ∧
      t.msu = s.msu ∧ t.sco = s.sco ∧ t.img = s.img ∧ t.fsq.groupState = .idle ∧ t.fsq.groupTimer = none ∧
      (t.slot 8).openWatch = some t.now ∧ ((t.slot 8).breakerCmd.map (·.cmd)) = some .open ∧
      latchSet t .closeFail = true ∧
      t.rct.state = (if s.rct.state = .waitBreaker then .stopped else s.rct.state)) ∧
  (∀ (c : Instr) (s : State) (t0 : Nat),
    (c = .groupTripTimeout ∧ s.fsq.groupState = .tripping ∧ s.fsq.groupTimer = some t0) ∨
      (c = .groupOpenWatchExpiry ∧ (s.slot 8).openWatch = some t0 ∧ position s 8 ≠ some .opened) →
    ∃ t, exec c s = .next t ∧ t = { s with now := t.now, mgt := t.mgt, fsq := t.fsq, recs := t.recs } ∧
      t.now = max s.now (t0 + 1000 * s.img.breakers[(8 : Fin 9)].tBf) ∧ t.fsq.feeders = s.fsq.feeders ∧
      t.fsq.groupState = .failed ∧ t.fsq.groupTimer = none ∧ (t.slot 8).breakerCmd = none ∧
      (∀ k, k ≠ 8 → t.slot k = s.slot k) ∧
      LoggedOne s t (.slot 8) .breakerFail { number := (position s 8).map positionCode } ∧
      (alarmActive s .breakerFail = false → latchSet t .breakerFail = true))

/-- A trip demand of FPR, and an intertrip demand of SCO, taken in CLOSED or CLOSING (R81, R82, R129): the demand
leaves its hands, the trip is recorded and counted with its wear, TRIP is issued to the feeder's slot, the feeder
enters TRIPPING with its state timer running, a firing rectifier phases back (R63), and, but for INTERTRIP alone, the
transfer trip of the feeder's section is held and logged (R128). FEEDER_TRIP is logged with its causes, current, group
and shot number. The capture trigger of the trip acts where the mask names it, and where it does not that of the
phase-back may (R170); that the trip's comes first is the model's choice (notes/assumptions/15.md). In any other state
the demand is dropped. That a gate unit is its address is the model's choice (notes/assumptions/35.md). -/
def Obligations.TripDemandsOpenTheFeeder : Prop :=
  ∀ (c : Instr) (f : Fin 8) (k : Fin 9) (s : State) (r : TripRecord), k = slotOf s.img f →
    (c = .tripDemandTaken f ∧ (s.prot f).demand.map demandRecord = some r) ∨
      (c = .intertripDemandTaken f ∧ f ∈ s.fsq.intertrips ∧
        r = { causes := [.intertrip], current := pointValue s s.img.feeders[f].currentPoint, group := activeGroup s f,
              time := s.mgt.time, timeSet := s.mgt.timeSet }) →
    ∃ t, exec c s = .next t ∧ t.now = s.now ∧ t.msu = s.msu ∧ t.mgt = s.mgt ∧ t.img = s.img ∧ t.pending = s.pending ∧
      (c = .tripDemandTaken f → (t.prot f).demand = none ∧ t.fsq.intertrips = s.fsq.intertrips) ∧
      (c = .intertripDemandTaken f → t.fsq.intertrips = s.fsq.intertrips.erase f) ∧
      ((s.feeder f).state = .closed ∨ (s.feeder f).state = .closing →
        (t.feeder f).state = .tripping ∧ (t.feeder f).stateTimer = some s.now ∧ (t.feeder f).lastTrip = some r ∧
        (t.feeder f).trips = min top32 ((s.feeder f).trips + 1) ∧
        (t.feeder f).wear = min top32 ((s.feeder f).wear + (match r.current with
          | some i => (i * i / 1000000).toNat
          | none => 0)) ∧
        (t.feeder f).reclaim = none ∧
        (t.feeder f).withinReclaim =
          (decide ((s.feeder f).state = .closing) || (s.feeder f).reclaim.isSome) ∧
        (t.slot k).breakerCmd = some
          { cmd := .trip, tag := (s.slot k).nextTag, echoed := false, sentAt := s.now, echo := none } ∧
        (running s.rct.state = true → s.rct.state ≠ .waitBreaker → s.rct.groupPos = some .closed →
          t.rct.state = .phaseBack ∧ t.rct.out = some (s.img.rect.dPb : Int) ∧ t.rct.pbTimer = some s.now ∧
          t.rct.dSs = none ∧ t.rct.dRest = none ∧
          LoggedIn s t .rectifier .phaseBack { causes := [.cause .feederTrip], current := some (rectCurrent s) } ∧
          (ControlKept s.rp.control → SetpointsSent (gateFire (firingAngle s.img s.img.rect.dPb)) s t)) ∧
        LoggedIn s t (.feeder f) .feederTrip
          { causes := r.causes.map .cause, current := r.current, group := some r.group,
            shot := some (s.img.feeders[f].shots - (s.feeder f).shots) } ∧
        TriggerActs
          (if r.causes = [.intertrip] ∧ s.img.capture.maskTransfer = true then some .transferTrip
          else if r.causes ≠ [.intertrip] ∧ s.img.capture.maskTrip = true then some .protectionTrip
          else if running s.rct.state = true ∧ s.rct.state ≠ .waitBreaker ∧ s.rct.groupPos = some .closed ∧
            s.img.capture.maskPhaseBack = true then some .phaseBack
          else none) s t ∧
        (∀ i, sectionOf s.img f = some i →
          t.sco.sections[i].hold = (if r.causes = [.intertrip] then s.sco.sections[i].hold else some s.now) ∧
          (r.causes ≠ [.intertrip] → LoggedIn s t (.pilot s.img.sections[i].port) .transferTripOut
            { causes := (r.causes.take 1).map .cause, tag := some s.img.sections[i].sectionId.toNat }))) ∧
      ((s.feeder f).state ≠ .closed → (s.feeder f).state ≠ .closing →
        t = { s with fpr := t.fpr, fsq := { s.fsq with intertrips := t.fsq.intertrips } } ∧
        ∀ g, g ≠ f → t.prot g = s.prot g)

/-! ### Line tests -/

/-- A look of the arbiter (R103, R104, R105, R114), in every state that keeps ServiceKept: without the conditions of a
grant, or with no eligible entry, nothing changes. Otherwise the first eligible entry is granted. With its line dead a
test starts, its class in the number field of TEST_START (the model's choice, notes/assumptions/15.md). With its line
live the pre-check gives LIVE: without live permission the feeder goes to OPEN with LIVE_SOURCE_UNKNOWN, and with it, no
mask and no work permit it closes; held back by either, an operator close goes to OPEN and a reclose to DEAD_TIME with
the dead time served and the same shot (R88). The settling time over, the circuit measures from sums of 0 with the bus
voltage point's last value (R107). A measured presentation stands for as many positions as its advance, which are summed
with the bus value beside them up to the sixteenth, and the sixteenth gives the result (R108, R109): the averages
rounded half up, NO_CURRENT without a voltage across the resistor, and otherwise R_line against R_pass, after which
TEST_OFF is issued and the circuit is DISCONNECTING. -/
def Obligations.LineTestSettlesMeasuresAndJudges : Prop :=
  (∀ (s : State) (free : Prop), ServiceKept s →
    free = (s.ltu.circuit = .idle ∧ (s.rct.state = .regulating ∨ s.rct.state = .limiting) ∧
      (∃ v, usableValue s s.img.rect.busPoint = some v ∧ (s.img.test.vTestMin : Int) ≤ v) ∧
      (∀ k, contactorSlot s.img k = true → contactorOn s k = false) ∧ s.ltu.strays = []) →
    (¬free ∨ (∀ e ∈ s.ltu.queue, lineValue s e.1 = none ∨ remoteEnd s e.1 = .testing ∨
        (s.img.breakers[slotOf s.img e.1].hasContactor = false ∧ lineLive s e.1 = false)) → arbitrate s = s) ∧
    (∀ pre f c post v, free → s.ltu.queue = pre ++ (f, c) :: post →
      (∀ e ∈ pre, lineValue s e.1 = none ∨ remoteEnd s e.1 = .testing ∨
        (s.img.breakers[slotOf s.img e.1].hasContactor = false ∧ lineLive s e.1 = false)) →
      lineValue s f = some v → remoteEnd s f ≠ .testing →
      (v < (s.img.test.vLive : Int) → s.img.breakers[slotOf s.img f].hasContactor = true → controlFull s.rp = false →
        ∃ t, arbitrate s = t ∧ t = { s with rp := t.rp, fsq := t.fsq, ltu := t.ltu, recs := t.recs } ∧
          t.ltu = { s.ltu with circuit := .connecting, queue := pre ++ post, record := t.ltu.record } ∧
          t.ltu.record = some
            { feeder := some f, cls := c, slot := s.img.feeders[f].slot, stage := some s.now, lineSum := 0, busSum := 0,
              count := 0, bus := none, outcome := .none } ∧
          (t.feeder f).state = .testing ∧ (t.feeder f).cls = some c ∧ (∀ g, g ≠ f → t.feeder g = s.feeder g) ∧
          ((t.slot (slotOf s.img f)).contactorCmd.map (·.cmd)) = some .testOn ∧
          LoggedOne s t (.feeder f) .testStart { voltage := some v, number := some (classCode c) }) ∧
      ((s.img.test.vLive : Int) ≤ v → livePermission s f = false →
        ((arbitrate s).feeder f).state = .opened ∧ latchSet (arbitrate s) .liveSourceUnknown = true ∧
        (∀ x, (f, x) ∉ (arbitrate s).ltu.queue)) ∧
      ((s.img.test.vLive : Int) ≤ v → livePermission s f = true → (s.feeder f).mask = false →
        (s.feeder f).permit = false → controlFull s.rp = false →
        ((arbitrate s).feeder f).state = .closing ∧ ((arbitrate s).feeder f).cls = some c ∧
        (((arbitrate s).slot (slotOf s.img f)).breakerCmd.map (·.cmd)) = some .close) ∧
      ((s.img.test.vLive : Int) ≤ v → livePermission s f = true →
        (s.feeder f).mask = true ∨ (s.feeder f).permit = true →
        (c = .operator → ((arbitrate s).feeder f).state = .opened) ∧
        (c = .reclose →
          ((arbitrate s).feeder f).state = .deadTime ∧ ((arbitrate s).feeder f).deadElapsed = true ∧
          ((arbitrate s).feeder f).stateTimer = none ∧ ((arbitrate s).feeder f).shots = (s.feeder f).shots) ∧
        (∀ x, (f, x) ∉ (arbitrate s).ltu.queue)))) ∧
  (∀ (s : State) (r : TestRecord) (t0 : Nat), s.ltu.circuit = .settling → s.ltu.record = some r → r.stage = some t0 →
    ∃ t, exec .settleEnd s = .next t ∧
      t = { s with now := t.now, mgt := t.mgt, msu := t.msu, ltu := t.ltu } ∧
      t.now = max s.now (t0 + 1000 * s.img.test.tSettle) ∧ t.msu.points = s.msu.points ∧
      t.ltu = { s.ltu with circuit := .measuring, record := some { r with
        stage := none, lineSum := 0, busSum := 0, count := 0, bus := pointValue s s.img.rect.busPoint } }) ∧
  (∀ (s : State) (pr : Presentation) (r : TestRecord), nextFor .lineTest s = some pr → s.ltu.circuit = .measuring →
    s.ltu.record = some r →
    ∃ t, exec .testMeasurementPresentation s = .next t ∧ t.now = s.now ∧ t.rct = s.rct ∧ t.sco = s.sco ∧ t.img = s.img ∧
      t.msu = { s.msu with presentations := s.msu.presentations.eraseP fun x => decide (x.target = .lineTest) } ∧
      (pr.point = s.img.rect.busPoint → t = { s with msu := t.msu, ltu := { s.ltu with
        record := some { r with bus := some pr.value } } }) ∧
      (∀ (f : Fin 8) (bus : Int) (ps : List Int), pr.point ≠ s.img.rect.busPoint → r.feeder = some f →
        r.bus = some bus → s.img.feeders[f].linePoint = pr.point →
        ps = ((pr.history.take pr.advance).drop 1).reverse ++ [pr.value] →
        (r.count + ps.length < 16 → t = { s with msu := t.msu, ltu := { s.ltu with record := some { r with
          lineSum := r.lineSum + ps.sum, busSum := r.busSum + bus * ps.length, count := r.count + ps.length } } }) ∧
        (r.count < 16 → 16 ≤ r.count + ps.length → controlFull s.rp = false →
          t.ltu.circuit = .disconnecting ∧
          ∃ (m : Measured) (line busAvg q : Int),
            (t.ltu.record.map (·.outcome)) = some (.result m) ∧
            line = max 0 ((r.lineSum + (ps.take (16 - r.count)).sum + 8) / 16) ∧
            busAvg = (r.busSum + bus * ((16 : Int) - r.count) + 8) / 16 ∧
            q = (s.img.test.rTest : Int) * line / (busAvg - line) ∧
            m.lineAvg = line ∧ m.busAvg = busAvg ∧
            (busAvg ≤ line → m.result = .noCurrent ∧ m.resistance = none) ∧
            (line < busAvg →
              m.resistance = some (min q.toNat 1000000, decide (1000000 < q.toNat)) ∧
              m.result = (if s.img.test.rPass ≤ min q.toNat 1000000 then .pass else .fail)) ∧
            ((t.slot r.slot.castSucc).contactorCmd.map (·.cmd)) = some .testOff)))

/-- The 50 ms of a contactor stage, or of a stray contactor, take the test circuit out of service (R114, R115):
TEST_CIRCUIT_FAULT is latched, the record removed, and a feeder in TESTING put back in TEST_WAIT and in the test queue
with its class (R102); and TEST_OFF is outstanding to the tested slot and to each feeder slot that reports its contactor
ON, but for the slot of a DISABLED feeder, to which nothing is sent (R78), and a slot that is not fitted, to which the
model sends nothing (notes/assumptions/43.md). -/
def Obligations.ContactorLimitsTakeTheCircuitOutOfService : Prop :=
  ∀ (c : Instr) (s : State) (t0 : Nat),
    (c = .contactorTimeout ∧ (s.ltu.circuit = .connecting ∨ s.ltu.circuit = .disconnecting) ∧
        ∃ r, s.ltu.record = some r ∧ r.stage = some t0) ∨
      (∃ k, c = .strayContactorTimeout k ∧ s.ltu.circuit ≠ .outOfService ∧
        (s.ltu.strays.find? fun e => decide (e.1 = k)) = some (k, t0)) →
    ∃ t, exec c s = .next t ∧ t.now = max s.now (t0 + 50000) ∧ t.ltu.circuit = .outOfService ∧ t.ltu.record = none ∧
      t.ltu.strays = s.ltu.strays ∧ t.msu = s.msu ∧ t.rct = s.rct ∧ t.fpr = s.fpr ∧ t.sco = s.sco ∧ t.img = s.img ∧
      (latchSet t .testCircuitFault = true) ∧
      (∀ (r : TestRecord) (f : Fin 8), s.ltu.record = some r → r.feeder = some f → (s.feeder f).state = .testing →
        (t.feeder f).state = .testWait ∧ (t.feeder f).cls = some r.cls ∧ (f, r.cls) ∈ t.ltu.queue) ∧
      (∀ g, (s.ltu.record.bind (·.feeder)) ≠ some g → t.feeder g = s.feeder g) ∧
      (∀ k : Fin 8, testedSlot s k = true ∨ contactorOn s k.castSucc = true →
        (fitted s.img k.castSucc = true → (∀ g, slotOf s.img g = k.castSucc → inService s g = true) →
          s.rp.control.length ≤ 6 → ((t.slot k.castSucc).contactorCmd.map (·.cmd)) = some .testOff) ∧
        (fitted s.img k.castSucc = true → feederOfSlot s.img k.castSucc ≠ none → s.rp.control.length ≤ 6 →
          ((t.slot k.castSucc).contactorCmd.map (·.cmd)) = some .testOff) ∧
        (fitted s.img k.castSucc = false ∨
            (feederOfSlot s.img k.castSucc = none ∧ ∃ g, slotOf s.img g = k.castSucc) →
          t.slot k.castSucc = s.slot k.castSucc))

/-! ### Capture rows -/

/-- A presentation of the pacing point, while it is neither STALE nor UNMAPPED, writes one row into the segment that
records, whose oldest row leaves it at 1024 (R169); in POST it is counted, and at the post rows the segment freezes
with its header completed, the next record number, and the lowest free segment recording next (R171): the trigger row
counted from the oldest held row, and the cause, the time and the channels as the trigger set them, the last being the
model's choice (notes/assumptions/15.md). A presentation of another capture channel, or of the pacing point while it
is STALE or UNMAPPED, is taken and writes no row: the model's choice (notes/assumptions/10.md). So is a record number
that counts on without a bound (notes/assumptions/44.md). -/
def Obligations.CaptureRowIsWritten : Prop :=
  (∀ (s : State) (pr : Presentation), nextFor .capture s = some pr →
    pacingPoint s.img ≠ pr.point ∨ (s.point pr.point).state = .stale ∨ (s.point pr.point).state = .unmapped →
    exec .captureRow s = .next { s with msu := { s.msu with
      presentations := s.msu.presentations.eraseP fun x => decide (x.target = .capture) } }) ∧
  ∀ (s : State) (pr : Presentation) (i : Fin 4) (g : Segment) (rows : List Row), nextFor .capture s = some pr →
    pacingPoint s.img = pr.point → (s.point pr.point).state ≠ .stale → (s.point pr.point).state ≠ .unmapped →
    activeSegment s.recs = some i → g = s.recs.segments[i] →
    rows = g.rows.drop (g.rows.length - 1023) ++ [captureRowOf s pr] →
    ∃ t, exec .captureRow s = .next t ∧ t = { s with msu := t.msu, recs := t.recs } ∧
      t.msu = { s.msu with presentations := s.msu.presentations.eraseP fun x => decide (x.target = .capture) } ∧
      t.recs.segments[i].rows = rows ∧
      (g.state = .recording → t.recs = { s.recs with segments := s.recs.segments.set i { g with rows := rows } }) ∧
      (g.state = .post → g.postCount + 1 < s.img.capture.postRows →
        t.recs.segments[i].state = .post ∧ t.recs.segments[i].postCount = g.postCount + 1) ∧
      (∀ h, g.state = .post → g.header = some h → s.img.capture.postRows ≤ g.postCount + 1 →
        t.recs.segments[i].state = .frozen ∧ t.recs.frozen = s.recs.frozen + 1 ∧
        t.recs.segments[i].header = some { h with
          record := s.recs.frozen + 1, validRows := rows.length, postRows := g.postCount + 1
          triggerRow := if h.hasTrigger then some (rows.length - 1 - (g.postCount + 1)) else none } ∧
        LoggedOne s t .part .captureFrozen
          { causes := [.cause h.cause], tag := some i.val, number := some (s.recs.frozen + 1) } ∧
        (∀ j : Fin 4, s.recs.segments[j].state = .free → (∀ n : Fin 4, n < j → s.recs.segments[n].state ≠ .free) →
          t.recs.segments[j].state = .recording))

/-! ### Section coordination -/

/-- The pilot frame that a port sends is a valid frame for a remote end of the same kind, which reads from it the
local station id, the outgoing sequence, and for each section of the port its id, its local end state and its
transfer-trip flag (R121, R122, R123, 11.2). -/
def Obligations.PilotFrameBytesRoundTrip : Prop :=
  ∀ (s : State) (p : Port), 1 ≤ s.img.station.stationId → s.img.station.stationId ≤ 65535 →
    (sectionsOn s.img p).length ≤ 4 → (∀ i ∈ sectionsOn s.img p, s.img.sections[i].sectionId ≠ 0) →
    ((sectionsOn s.img p).map fun i => s.img.sections[i].sectionId).Nodup →
    parsePilot (pilotBytes s p) = some
      { stationId := s.img.station.stationId, seq := (s.link p).outSeq,
        items := (sectionsOn s.img p).map fun i =>
          { sectionId := s.img.sections[i].sectionId,
            endState := localEnd (s.feeder s.img.sections[i].feeder),
            flag := s.sco.sections[i].hold.isSome } }

/-- A pilot frame received on a configured port, up to the presentation of its changes and LTU's look: discarded where
it is not valid; a conflict where it carries the local station id (R123); counted toward the third frame in sequence
while the link is DOWN (R124); and applied to the port while it is UP, as is the third frame, which logs PILOT_UP: the
remote end states and the flags received of its sections, one intertrip demand for each set flag, its unknown sections
list, and SECTION_MISSING, UNKNOWN_SECTION and TRANSFER_TRIP_IN (R125, R126, R127, R129), in an order of events that
is the model's choice (notes/assumptions/15.md and 40.md); and with another station id than the link's it takes the
link DOWN and is then taken as a first frame (R125). A change so presented, in every state that keeps ServiceKept,
acts on a feeder in REMOTE_WAIT (R90): OPEN on the loss of the link and on HELD, CLOSING on FED with the line live and
nothing to hold it back, and no change otherwise. A change of active group disarms undervoltage or compares its time
with the new limit (R23, R35, R36), and a test in progress defers where deference applies (R111). -/
def Obligations.PilotFrameIsTaken : Prop :=
  (∀ (p : Port) (bytes : List Byte) (s : State), portConfigured s.img p = true →
    ∃ u, exec (.pilotFrame p bytes) s = .next (latchRises s (arbitrate (presentLinks s u))) ∧
      u = { s with sco := u.sco, fsq := u.fsq, recs := u.recs } ∧
      u.fsq = { s.fsq with intertrips := u.fsq.intertrips } ∧ (∀ q, q ≠ p → u.link q = s.link q) ∧
      (parsePilot bytes = none →
        u = s.setLink p { s.link p with discarded := min top16 ((s.link p).discarded + 1) }) ∧
      (∀ fr, parsePilot bytes = some fr → fr.stationId = s.img.station.stationId →
        (u.link p).conflict = true ∧ (u.link p).up = false ∧ (u.link p).run = 0 ∧
        u.fsq.intertrips = s.fsq.intertrips ∧
        (∀ i ∈ sectionsOn s.img p, u.sco.sections[i] = (if (s.link p).up
          then { s.sco.sections[i] with remote := .none, flag := false } else s.sco.sections[i])) ∧
        LoggedAll s u
          ((if (s.link p).conflict then [] else [(.pilot p, .idConflict, { tag := some fr.stationId })]) ++
          (if (s.link p).up then [(.pilot p, .pilotDown, { causes := [.cause .idConflict] })] else []))) ∧
      (∀ fr n, parsePilot bytes = some fr → fr.stationId ≠ s.img.station.stationId → (s.link p).up = false →
        n = (if (s.link p).run ≠ 0 ∧ (s.link p).remoteId = some fr.stationId ∧
            (s.link p).lastSeq.map (· + 1) = some fr.seq then (s.link p).run + 1 else 1) →
        (u.link p).remoteId = some fr.stationId ∧ (u.link p).lastSeq = some fr.seq ∧
        (u.link p).silence = some s.now ∧ (u.link p).conflict = false ∧
        (n < 3 → (u.link p).up = false ∧ (u.link p).run = n ∧ u.sco.sections = s.sco.sections ∧ u.recs = s.recs ∧
          u.fsq = s.fsq) ∧
        (3 ≤ n → (u.link p).up = true ∧ (u.link p).run = 0 ∧
          ItemsApplied p fr.items [(.pilot p, .pilotUp, { tag := some fr.stationId })] s u)) ∧
      (∀ fr, parsePilot bytes = some fr → fr.stationId ≠ s.img.station.stationId → (s.link p).up = true →
        (s.link p).remoteId = some fr.stationId →
        ((s.link p).lastSeq = some fr.seq → u = s) ∧
        ((s.link p).lastSeq ≠ some fr.seq →
          (u.link p).up = true ∧ (u.link p).lastSeq = some fr.seq ∧ (u.link p).silence = some s.now ∧
          ItemsApplied p fr.items [] s u)) ∧
      (∀ fr, parsePilot bytes = some fr → fr.stationId ≠ s.img.station.stationId → (s.link p).up = true →
        (s.link p).remoteId ≠ some fr.stationId →
        u.link p = { s.link p with
          up := false, remoteId := some fr.stationId, lastSeq := some fr.seq, run := 1, silence := some s.now,
          conflict := false, unknown := [] } ∧
        LoggedOne s u (.pilot p) .pilotDown { causes := [.cause .idChange] } ∧ u.fsq.intertrips = s.fsq.intertrips ∧
        ∀ i ∈ sectionsOn s.img p, u.sco.sections[i] = { s.sco.sections[i] with remote := .none, flag := false })) ∧
  (∀ (b s t : State) (f : Fin 8), ServiceKept s → t = presentLinks b s →
    ((s.feeder f).state = .remoteWait → sectionOf s.img f ≠ none →
      remoteEnd b f ≠ remoteEnd s f ∨ sectionLinkUp b f ≠ sectionLinkUp s f →
      (sectionLinkUp s f = false ∨ remoteEnd s f = .held →
        (t.feeder f).state = .opened ∧ (t.feeder f).shots = s.img.feeders[f].shots ∧ (t.feeder f).stateTimer = none) ∧
      (sectionLinkUp s f = true → remoteEnd s f = .fed → lineLive s f = true → (s.feeder f).mask = false →
        (s.feeder f).permit = false → s.rp.control.length ≤ 6 →
        (t.feeder f).state = .closing ∧ (t.feeder f).cls = some .reclose ∧ (t.feeder f).stateTimer = some s.now) ∧
      (sectionLinkUp s f = true → remoteEnd s f ≠ .held →
        remoteEnd s f ≠ .fed ∨ lineLive s f = false ∨ (s.feeder f).mask = true ∨ (s.feeder f).permit = true →
        t.feeder f = s.feeder f)) ∧
    (activeGroup b f = activeGroup s f → t.prot f = s.prot f) ∧
    (activeGroup b f ≠ activeGroup s f →
      (uvArmed s f = false → t.prot f = { s.prot f with uvTimer := none, uvCondition := false }) ∧
      (∀ t0, uvArmed s f = true → (s.prot f).uvTimer = some t0 →
        t.prot f = (if t0 + 1000 * (activeSettings s f).tUv ≤ s.now
          then { s.prot f with uvTimer := none, uvCondition := true } else s.prot f))) ∧
    (∀ (r : TestRecord) (i : Fin 8) (id : Nat), s.ltu.record = some r → r.feeder = some f →
      s.ltu.circuit = .connecting ∨ s.ltu.circuit = .settling ∨ s.ltu.circuit = .measuring →
      (s.feeder f).state = .testing → sectionOf s.img f = some i → s.sco.sections[i].remote = .testing →
      (s.link s.img.sections[i].port).remoteId = some id → id < s.img.station.stationId → s.rp.control.length ≤ 6 →
      t.ltu.circuit = .disconnecting ∧ (t.ltu.record.map (·.outcome)) = some .requeue ∧
      (t.feeder f).state = .testWait ∧ (t.feeder f).cls = some r.cls ∧ (f, r.cls) ∈ t.ltu.queue ∧
      ((t.slot r.slot.castSucc).contactorCmd.map (·.cmd)) = some .testOff))

/-- The pilot times: a frame each 1 ms on a configured port (R122); 10 ms of silence take an UP link DOWN, with the
remote end states of its sections NONE, and end a conflict (R123, R125); the grace time ends, after which a DOWN
link's alarm is active (R126); and a transfer trip's hold ends (R128). -/
def Obligations.PilotTimesElapse : Prop :=
  (∀ (p : Port) (s : State), portConfigured s.img p = true →
    ∃ t, exec (.pilotFrameSend p) s = .next t ∧ t = { s with now := t.now, mgt := t.mgt, sco := t.sco } ∧
      t.now = max s.now ((s.link p).period + 1000) ∧ t.sco.sections = s.sco.sections ∧
      (∀ q, q ≠ p → t.link q = s.link q) ∧
      t.link p = { s.link p with
        sent := some (pilotBytes s p), outSeq := (s.link p).outSeq + 1, period := (s.link p).period + 1000 }) ∧
  (∀ (p : Port) (s : State) (t0 : Nat), (s.link p).silence = some t0 →
    ∃ u, exec (.pilotSilenceTimeout p) s = .next (latchRises s (arbitrate
        (presentLinks (s.reach (t0 + 10000)) u))) ∧
      u = { s with now := u.now, mgt := u.mgt, sco := u.sco, recs := u.recs } ∧ u.now = max s.now (t0 + 10000) ∧
      (u.link p).up = false ∧ (u.link p).run = 0 ∧ (u.link p).silence = none ∧ (u.link p).conflict = false ∧
      (u.link p).remoteId = (s.link p).remoteId ∧ (∀ q, q ≠ p → u.link q = s.link q) ∧
      ((s.link p).up = true → LoggedOne s u (.pilot p) .pilotDown { causes := [.cause .silence] } ∧
        ∀ i ∈ sectionsOn s.img p, u.sco.sections[i].remote = .none ∧ u.sco.sections[i].flag = false ∧
          u.sco.sections[i].hold = s.sco.sections[i].hold) ∧
      ((s.link p).up = false → u.sco.sections = s.sco.sections ∧ u.recs = s.recs)) ∧
  (∀ (p : Port) (s : State) (t0 : Nat), (s.link p).grace = some t0 →
    ∃ t, exec (.graceTimerExpiry p) s = .next t ∧
      t = { s with now := t.now, mgt := t.mgt, sco := t.sco, recs := t.recs } ∧ t.now = max s.now (t0 + 10000) ∧
      t.sco.sections = s.sco.sections ∧ t.link p = { s.link p with grace := none } ∧
      (∀ q, q ≠ p → t.link q = s.link q) ∧
      (portConfigured s.img p = true → (s.link p).up = false →
        latchSet t (match p with
          | .one => .pilot1Down
          | .two => .pilot2Down) = true)) ∧
  (∀ (i : Fin 8) (s : State) (t0 : Nat), s.sco.sections[i].hold = some t0 →
    ∃ t, exec (.transferTripHoldEnd i) s = .next t ∧ t = { s with now := t.now, mgt := t.mgt, sco := t.sco } ∧
      t.now = max s.now (t0 + 100000) ∧
      t.sco = { s.sco with sections := s.sco.sections.set i { s.sco.sections[i] with hold := none } })

/-! ### The settings store -/

/-- An entry written into an image is read back field by field as it was written, every other entry stands as it was,
and an entry that passes its check is written back by its own fields as itself (R148, R149, R150). -/
def Obligations.SettingsEntriesRoundTrip : Prop :=
  (∀ (m m1 : Image) (t : Table) (n : Nat) (fields : List Int), writeEntry m t n fields = some m1 →
    n < tableSize t ∧ entryFields m1 t n = some fields ∧
    ∀ (t2 : Table) (n2 : Nat), (t2, n2) ≠ (t, n) → entryFields m1 t2 n2 = entryFields m t2 n2) ∧
  (∀ (m : Image) (t : Table) (n : Nat) (fields : List Int), entriesPass m = true → entryFields m t n = some fields →
    writeEntry m t n fields = some m)

/-- The ends of writes: a verified image write whose change checks pass makes the staging image the stored, reference
and in-use image (R153); one whose change checks fail fails the commit with their reason and leaves the candidate in
the store marked invalid (notes/assumptions/23.md); one that is not verified fails the commit with VERIFY and leaves
the in-use and staging images as they were. The write ends no less than 150 ms after it began, and the change checks
are read then, as notes/assumptions/24.md takes the spec's 150 to 400 ms. A flags write that matches makes the record
valid, one that does not is logged and written once more, a second failure is logged and leaves it invalid, and a
waiting image write goes first (R157, R158). -/
def Obligations.WritesToTheStoreEnd : Prop :=
  (∀ (s : State) (b : BaseSettings) (t0 : Nat) (m : Image), s.sst.settings = .committing b → s.sst.arbiter = .image →
    s.sst.writeStart = some t0 → s.sst.staging = some m → s.sst.imageWaiting = false →
    (changeChecks (s.reach (t0 + 150000)) m = none →
      ∃ t, exec (.commitCompletion true) s = .next t ∧ t.now = max s.now (t0 + 150000) ∧ t.img = m ∧
        t.sst.stored = m ∧ t.sst.storedValid = true ∧ t.sst.reference = m ∧ t.sst.refDefault = false ∧
        t.sst.staging = none ∧ t.sst.settings = .base .stored ∧ t.sst.lastCommit = some none ∧
        t.sst.key = s.sst.key ∧ t.sst.arbiter ≠ .image) ∧
    (∀ x, changeChecks (s.reach (t0 + 150000)) m = some x →
      ∃ t, exec (.commitCompletion true) s = .next t ∧
        t = { s with now := t.now, mgt := t.mgt, sst := t.sst, recs := t.recs } ∧ t.now = max s.now (t0 + 150000) ∧
        t.img = s.img ∧ t.sst.staging = some m ∧ t.sst.stored = m ∧ t.sst.storedValid = false ∧
        t.sst.reference = s.sst.reference ∧ t.sst.settings = .base b ∧ t.sst.lastCommit = some (some x.reason) ∧
        t.sst.arbiter ≠ .image ∧ latchSet t .commitFailed = true ∧
        LoggedOne s t .settings .commitFailed { causes := [.reason x.reason] }) ∧
    (∃ t, exec (.commitCompletion false) s = .next t ∧
      t = { s with now := t.now, mgt := t.mgt, sst := t.sst, recs := t.recs } ∧ t.img = s.img ∧
      t.sst.staging = some m ∧ t.sst.storedValid = false ∧ t.sst.settings = .base b ∧
      t.sst.lastCommit = some (some .verify) ∧ latchSet t .commitFailed = true ∧
      LoggedOne s t .settings .commitFailed { causes := [.reason .verify] })) ∧
  (∀ s : State, s.sst.arbiter = .flags → s.sst.imageWaiting = false →
    (s.sst.flagsPending = false →
      ∃ t, exec (.flagsWriteEnd true) s = .next t ∧ t = { s with sst := t.sst } ∧
        t.sst = { s.sst with flagsValid := true, flagsRetry := false, arbiter := .idle, writeStart := none }) ∧
    (s.sst.flagsRetry = false →
      ∃ t, exec (.flagsWriteEnd false) s = .next t ∧ t.sst.arbiter = .flags ∧ t.sst.flagsRetry = true ∧
        t.sst.flagsPending = false ∧ t.sst.flagsValid = false ∧ t.sst.writeStart = some s.now ∧
        LoggedOne s t .settings .flagsWriteFailed {}) ∧
    (s.sst.flagsRetry = true → s.sst.flagsPending = false →
      ∃ t, exec (.flagsWriteEnd false) s = .next t ∧ t = { s with sst := t.sst, recs := t.recs } ∧
        t.sst = { s.sst with flagsRetry := false, arbiter := .idle, writeStart := none } ∧
        LoggedOne s t .settings .flagsWriteFailed {})) ∧
  (∀ (s : State) (ok : Bool), s.sst.arbiter = .flags → s.sst.imageWaiting = true →
    ∃ t, exec (.flagsWriteEnd ok) s = .next t ∧ t.sst.arbiter = .image ∧ t.sst.imageWaiting = false ∧
      t.sst.writeStart = some s.now ∧ t.sst.storedValid = false ∧ t.sst.settings = s.sst.settings ∧ t.img = s.img)

/-- STAGE_WRITE, admitted and of its table's length: an entry that passes its check goes into the staging image, which
begins as a copy of the in-use image; any other is answered BAD_ARG with nothing changed. STAGE_DISCARD empties staging
(R149, R150). -/
def Obligations.StagingRequestsChangeStagingOnly : Prop :=
  (∀ (src tag table entry : Byte) (fields : List (BitVec 32)) (s : State) (args : List Byte),
    stageWriteLengthOk table (4 * fields.length) = true → Admitted .stageWrite src s →
    args = stageArgs table entry fields →
    (∀ t n m, entryArg table entry = some (t, n) →
      writeEntry (s.sst.staging.getD s.img) t n (fields.map (·.toInt)) = some m →
      exec (.stageWrite src tag table entry fields) s = .next
        (answered .stageWrite src tag args
          { result := .ok,
            body := entryBytes t (fields.map (·.toInt)) ++ beBytes 2 (entriesDiffering m s.img : Nat) }
          (s.setSst { s.sst with staging := some m }))) ∧
    ((∀ t n, entryArg table entry = some (t, n) →
        writeEntry (s.sst.staging.getD s.img) t n (fields.map (·.toInt)) = none) →
      exec (.stageWrite src tag table entry fields) s = .next
        (answered .stageWrite src tag args { result := .badArg } s))) ∧
  (∀ (src tag : Byte) (s : State), Admitted .stageDiscard src s →
    exec (.stageDiscard src tag) s = .next
      (answered .stageDiscard src tag [] { result := .ok } (s.setSst { s.sst with staging := none })))

/-- COMMIT, APPLY_TRIAL and REVERT_TRIAL, admitted, on an image that passes validation: COMMIT begins the image write or
waits behind a flags write, with the store marked invalid once it begins (R153, R157); APPLY_TRIAL puts the staging
image in use without storing it, and REVERT_TRIAL the reference image (R154). A failed validation is answered REFUSED
with nothing changed (R152), in a body whose layout is the model's choice (notes/assumptions/14.md). At a switch, in
every state that keeps ServiceKept, each block takes its part: points (R16), protection (R44), rectifier (R69), feeders
and slots (R97), the test circuit (R117), links and sections (R132), and capture (R174), and where the rules leave a
value or an order open the model's choice stands (notes/assumptions/12.md, 17.md, 30.md and 34.md). That a port whose
configured status changes, one that the switch unconfigures included, starts a fresh link record with its timers from
the switch is the model's reading (notes/assumptions/22.md), since the rule of the switch (R132) gives an unconfigured
port its link DOWN and no more. -/
def Obligations.CommitAndTrialRequests : Prop :=
  (∀ (src tag : Byte) (s : State) (m : Image), Admitted .commit src s → s.sst.staging = some m →
    (∀ x, validate s m = some x → exec (.commit src tag) s = .next (answered .commit src tag [] (refusedReply x) s)) ∧
    (validate s m = none →
      ∃ t, exec (.commit src tag) s = .next t ∧
        t = { s with rp := t.rp, mgt := t.mgt, sst := t.sst, recs := t.recs, freeCount := t.freeCount } ∧
        t.img = s.img ∧ t.sst.staging = some m ∧ t.sst.settings = .committing (baseOf s.sst.settings) ∧
        LoggedOne s t .settings .commitStart { tag := some tag.toNat } ∧
        (s.sst.arbiter = .idle → t.sst.arbiter = .image ∧ t.sst.writeStart = some s.now ∧ t.sst.storedValid = false) ∧
        (s.sst.arbiter = .flags → t.sst.arbiter = .flags ∧ t.sst.imageWaiting = true ∧
          t.sst.storedValid = s.sst.storedValid))) ∧
  (∀ (src tag : Byte) (s : State) (m : Image), Admitted .applyTrial src s → s.sst.staging = some m →
    (∀ x, validate s m = some x →
      exec (.applyTrial src tag) s = .next (answered .applyTrial src tag [] (refusedReply x) s)) ∧
    (validate s m = none →
      ∃ t, exec (.applyTrial src tag) s = .next t ∧ t.img = m ∧ t.sst.settings = .base .trial ∧
        t.sst.staging = some m ∧ t.sst.stored = s.sst.stored ∧ t.sst.storedValid = s.sst.storedValid ∧
        t.sst.reference = s.sst.reference ∧ t.now = s.now ∧
        (trialInForce s.sst.settings = false → latchSet t .trialActive = true))) ∧
  (∀ (src tag : Byte) (s : State), Admitted .revertTrial src s →
    (∀ x, validate s s.sst.reference = some x →
      exec (.revertTrial src tag) s = .next (answered .revertTrial src tag [] (refusedReply x) s)) ∧
    (validate s s.sst.reference = none →
      ∃ t, exec (.revertTrial src tag) s = .next t ∧ t.img = s.sst.reference ∧
        t.sst.settings = .base (if s.sst.refDefault then .default else .stored) ∧ t.sst.staging = s.sst.staging ∧
        t.sst.stored = s.sst.stored ∧ t.sst.storedValid = s.sst.storedValid ∧ t.now = s.now)) ∧
  (∀ (src tag : Byte) (s : State) (m : Image), Admitted .applyTrial src s → s.sst.staging = some m →
    validate s m = none →
    ∃ u, exec (.applyTrial src tag) s =
        .next (latchRises s (respond src tag (codeOf .applyTrial) { result := .ok } (switchImage m u))) ∧
      u = { s with sst := { s.sst with settings := .base .trial }, recs := u.recs, mgt := u.mgt } ∧
      LoggedOne s u .settings .trialApplied { tag := some tag.toNat }) ∧
  (∀ (new : Image) (s t : State), ServiceKept s → contentChecks s.rp.own new = none → t = switchImage new s →
    t.img = new ∧ t.now = s.now ∧ t.mgt = s.mgt ∧
    (∀ p : Fin 32, t.point p = (if s.img.inputs[p] = new.inputs[p] then s.point p else
      { state := if new.inputs[p].inUse then .warming else .unmapped, history := [], seq := none, warm := 0,
        saturating := false, overflow := (s.point p).overflow,
        freshness := if new.inputs[p].inUse then some s.now else none, freshSince := false })) ∧
    t.msu.startSet = s.msu.startSet.filter (fun p => decide (s.img.inputs[p] = new.inputs[p])) ∧
    (∀ f : Fin 8, (t.prot f).theta = (s.prot f).theta ∧ (t.prot f).selection = (s.prot f).selection ∧
      (new.feeders[f].inService = true →
        (t.prot f).thermalAlarm =
          decide (81 * ((new.feeders[f].iTh : Int) * new.feeders[f].iTh) ≤ 100 * (s.prot f).theta) ∧
        (t.prot f).inhibit =
          decide (64 * ((new.feeders[f].iTh : Int) * new.feeders[f].iTh) ≤ 100 * (s.prot f).theta) ∧
        (inService s f = true → s.img.feeders[f].currentPoint = new.feeders[f].currentPoint →
          s.img.inputs[new.feeders[f].currentPoint] = new.inputs[new.feeders[f].currentPoint] →
          (t.prot f).rise = (s.prot f).rise ∧ (t.prot f).blockSum = (s.prot f).blockSum ∧
          (t.prot f).blockCount = (s.prot f).blockCount)) ∧
      (new.feeders[f].inService = false ∨ inService s f = false ∨
          s.img.feeders[f].currentPoint ≠ new.feeders[f].currentPoint ∨
          s.img.inputs[new.feeders[f].currentPoint] ≠ new.inputs[new.feeders[f].currentPoint] →
        (t.prot f).rise = .quiet ∧ (t.prot f).blockSum = 0 ∧ (t.prot f).blockCount = 0) ∧
      (new.feeders[f].inService = false → (t.prot f).thermalAlarm = false ∧ (t.prot f).inhibit = (s.prot f).inhibit ∧
        (t.prot f).uvTimer = none ∧ (t.prot f).uvCondition = false ∧ (t.prot f).lossTimer = none)) ∧
    t.rct.xi = s.rct.xi ∧ t.rct.misfires = s.rct.misfires ∧ t.rct.autoStart = s.rct.autoStart ∧
    t.rct.dCl = max (new.rect.dMin : Int) (min (new.rect.dMax : Int) s.rct.dCl) ∧
    (s.rct.state = .regulating ∨ s.rct.state = .limiting → (∀ g, (s.feeder g).state ≠ .tripping) →
      t.rct.state = s.rct.state ∧
      t.rct.out = s.rct.out.map (fun d => max (new.rect.dPb : Int) (min (new.rect.dMax : Int) d)) ∧
      t.rct.alpha = t.rct.out.map (firingAngle new)) ∧
    (∀ g : GateUnit,
      (gateAddress s.img g = gateAddress new g →
        (t.rct.gate g).silence = (s.rct.gate g).silence ∧ (t.rct.gate g).report = (s.rct.gate g).report) ∧
      (gateAddress s.img g ≠ gateAddress new g →
        (t.rct.gate g).silence = some s.now ∧ (t.rct.gate g).silent = false ∧ (t.rct.gate g).report = none)) ∧
    (∀ k : Fin 9,
      (s.img.breakers[k].address = new.breakers[k].address →
        (t.slot k).report = (s.slot k).report ∧ (t.slot k).freshness = (s.slot k).freshness) ∧
      (s.img.breakers[k].address ≠ new.breakers[k].address →
        (t.slot k).report = none ∧ (t.slot k).freshness = some s.now ∧ (t.slot k).unknown = false)) ∧
    (∀ f : Fin 8, (t.feeder f).shots ≤ new.feeders[f].shots ∧
      (inService s f = true → new.feeders[f].inService = false →
        (t.feeder f).state = .disabled ∧ (t.feeder f).lockoutFlag = (s.feeder f).lockoutFlag ∧
        (t.feeder f).reclaim = none) ∧
      (inService s f = false → new.feeders[f].inService = true →
        (position t (slotOf new f) = none ∨ (t.slot (slotOf new f)).unknown = true →
          (t.feeder f).state = .unresolved) ∧
        ((t.slot (slotOf new f)).unknown = false →
          (position t (slotOf new f) = some .closed →
            (t.feeder f).state = .closed ∧ (t.feeder f).lockoutFlag = false) ∧
          (position t (slotOf new f) = some .opened →
            (t.feeder f).state = (if (s.feeder f).lockoutFlag then .lockout else .opened))))) ∧
    (s.ltu.circuit = .outOfService ∨ s.ltu.circuit = .disconnecting → t.ltu.circuit = s.ltu.circuit) ∧
    (∀ (r : TestRecord) (f : Fin 8), s.ltu.record = some r → r.feeder = some f →
      s.ltu.circuit = .connecting ∨ s.ltu.circuit = .settling ∨ s.ltu.circuit = .measuring →
      (s.feeder f).state = .testing → new.feeders[f].inService = true →
      s.img.feeders[f].linePoint ≠ new.feeders[f].linePoint ∨
        s.img.inputs[new.feeders[f].linePoint] ≠ new.inputs[new.feeders[f].linePoint] ∨
        s.img.rect.busPoint ≠ new.rect.busPoint ∨ s.img.inputs[new.rect.busPoint] ≠ new.inputs[new.rect.busPoint] ∨
        s.img.breakers[r.slot.castSucc] ≠ new.breakers[r.slot.castSucc] ∨
        s.img.station.stationId ≠ new.station.stationId →
      (t.ltu.circuit = .disconnecting ∨ t.ltu.circuit = .outOfService) ∧ (t.feeder f).state = .testWait ∧
      (t.feeder f).cls = some r.cls) ∧
    (∀ p : Port,
      (portConfigured s.img p ≠ portConfigured new p →
        t.link p = { up := false, remoteId := none, lastSeq := none, run := 0, silence := none, conflict := false,
                     grace := some s.now, unknown := [], outSeq := 0, discarded := 0, period := s.now, sent := none }) ∧
      (portConfigured s.img p = portConfigured new p →
        (s.img.station.stationId = new.station.stationId ∨ (s.link p).up = false ∨
            (s.link p).remoteId ≠ some new.station.stationId → t.link p = { s.link p with unknown := [] }) ∧
        (s.img.station.stationId ≠ new.station.stationId → (s.link p).up = true →
          (s.link p).remoteId = some new.station.stationId →
          (t.link p).up = false ∧ (t.link p).run = 0 ∧ (t.link p).conflict = true))) ∧
    (∀ i : Fin 8,
      (new.sections[i].inUse = false ∨ (∀ j : Fin 8, s.img.sections[j].inUse = true →
          s.img.sections[j] ≠ new.sections[i]) →
        t.sco.sections[i] = { remote := .none, hold := none, flag := false }) ∧
      (∀ j : Fin 8, new.sections[i].inUse = true → s.img.sections[j] = new.sections[i] →
        t.sco.sections[i].hold = s.sco.sections[j].hold ∧
        (s.img.station.stationId = new.station.stationId → t.sco.sections[i] = s.sco.sections[j]))) ∧
    (∀ i : Fin 4, activeSegment s.recs = some i →
      (captureChannels s.img ≠ captureChannels new →
        (s.recs.segments[i].state = .recording → t.recs.segments[i].rows = []) ∧
        (∀ h, s.recs.segments[i].state = .post → s.recs.segments[i].header = some h →
          t.recs.segments[i].state = .frozen ∧ t.recs.segments[i].rows = s.recs.segments[i].rows ∧
          (t.recs.segments[i].header.map (·.channels)) = some h.channels)) ∧
      (captureChannels s.img = captureChannels new →
        t.recs.segments[i].rows = s.recs.segments[i].rows ∧
        (∀ h, s.recs.segments[i].state = .post → s.recs.segments[i].header = some h →
          new.capture.postRows ≤ s.recs.segments[i].postCount → t.recs.segments[i].state = .frozen))))

/-! ### Management requests -/

/-- A request that its requester has no right to, or that the gate of the settings requests turns away, is answered
NOT_AUTHORISED or as the gate says, and changes nothing else in the part (R151, R177). -/
def Obligations.RequestTurnedAwayChangesNothing : Prop :=
  ∀ (c : Instr) (q : Request) (src tag : Byte) (args : List Byte) (s : State),
    requestParts c = some (q, src, tag, args) →
    (holdsRight s.img src (requestRight q) = false →
      exec c s = .next (answered q src tag args { result := .notAuthorised } s)) ∧
    (∀ r, holdsRight s.img src (requestRight q) = true → gateAnswer q s = some r →
      exec c s = .next (answered q src tag args { result := r } s)) ∧
    (∀ r : Reply, answered q src tag args r s = { s with
      rp := placeResponse { dst := src, src := s.rp.own, kind := 7, payload := responsePayload tag (codeOf q) r } s.rp
      mgt := { s.mgt with requests := s.mgt.requests.erase (requestFrame s.rp.own src tag (codeOf q) args) } })

/-- The reading requests, admitted, answer from the state as it stands and change nothing else: IDENTIFY, READ_STATUS,
READ_FEEDER, STAGE_READ, READ_SETTINGS, READ_EVENTS and READ_ALARMS (R96, R150, R164, R167, R179). The bytes of the
bodies are the model's choice where the spec gives no layout: the revision (notes/assumptions/3.md), the class code
(notes/assumptions/8.md), and names, outcomes, keys and further codes (notes/assumptions/9.md). -/
def Obligations.ReadingRequestsChangeNothing : Prop :=
  ∀ (src tag : Byte) (s : State), holdsRight s.img src .read = true →
    exec (.identify src tag) s = .next (answered .identify src tag [] { result := .ok, body := identifyBody s } s) ∧
    (∀ part : Byte, exec (.readStatus src tag part) s = .next (answered .readStatus src tag [part]
      (if 6 ≤ part.toNat then { result := .badArg } else { result := .ok, body := (statusBody part s).getD [] }) s)) ∧
    (∀ number : Byte, exec (.readFeeder src tag number) s = .next (answered .readFeeder src tag [number]
      (if h : number.toNat < 8 then { result := .ok, body := feederBody s ⟨number.toNat, h⟩ }
        else if number = 8 then { result := .ok, body := groupBody s } else { result := .badArg }) s)) ∧
    (∀ table entry : Byte,
      (∀ t n m, entryArg table entry = some (t, n) → s.sst.staging = some m →
        exec (.stageRead src tag table entry) s = .next (answered .stageRead src tag [table, entry]
          { result := .ok, body := entryBytes t ((entryFields m t n).getD []) ++
            beBytes 1 (if entryFields m t n = entryFields s.img t n then 0 else 1) } s)) ∧
      (∀ t n, entryArg table entry = some (t, n) → s.sst.staging = none →
        exec (.stageRead src tag table entry) s = .next
          (answered .stageRead src tag [table, entry] { result := .wrongState } s)) ∧
      (entryArg table entry = none →
        exec (.stageRead src tag table entry) s = .next
          (answered .stageRead src tag [table, entry] { result := .badArg } s))) ∧
    (∀ table entry : Byte, committing s = false →
      (∀ t n, entryArg table entry = some (t, n) →
        exec (.readSettings src tag table entry 0) s = .next (answered .readSettings src tag [table, entry, 0]
          { result := .ok, body := entryBytes t ((entryFields s.img t n).getD []) } s) ∧
        exec (.readSettings src tag table entry 1) s = .next (answered .readSettings src tag [table, entry, 1]
          { result := .ok, body := entryBytes t ((entryFields s.sst.stored t n).getD []) ++
            beBytes 1 (if s.sst.storedValid then 1 else 0) } s)) ∧
      (∀ image : Byte, entryArg table entry = none ∨ 2 ≤ image.toNat →
        exec (.readSettings src tag table entry image) s = .next
          (answered .readSettings src tag [table, entry, image] { result := .badArg } s))) ∧
    (∀ (first : BitVec 32) (max : Byte),
      exec (.readEvents src tag first max) s = .next (answered .readEvents src tag (wordBytes 4 first ++ [max])
        (if 1 ≤ max.toNat ∧ max.toNat ≤ 16 then { result := .ok, body := eventsBody s first max.toNat }
          else { result := .badArg }) s)) ∧
    exec (.readAlarms src tag) s = .next (answered .readAlarms src tag []
      { result := .ok, body := beBytes 4 (activeMask s).toNat ++ beBytes 4 s.recs.latched.toNat ++
        beBytes 4 s.recs.enabled.toNat ++
        beBytes 1 (if s.recs.latched &&& s.recs.enabled = 0 then 0 else 1) } s)

/-- Management's own commands: the station report is formed each 10 ms and skipped where the REPORT queue is full
(R143, R181); a payload too short for a request is dropped and counted, and a request of a bad form is answered
BAD_REQUEST (R176); TIME_SET replaces the count and sets the flag, logged with the new time and the old count (R178);
and RESTART warm-resets the part (R17, R46, R98, R146): FORWARD, CONTROL and REPORT are emptied, TRIP and the frame
being sent are kept, the turn is FORWARD, and the answer, with the latest event number, is placed after the reset
(R180). A contactor command outstanding is issued again with a new tag, and its 50 ms run on from its original issue
(R118). With a trial in force it is refused where the reference image fails its change checks, and the reset reverts
the trial otherwise (R154, R161); the layout of a refusal's body is the model's choice (notes/assumptions/14.md). -/
def Obligations.ManagementCommandsComplete : Prop :=
  (∀ s : State,
    ∃ t, exec .stationReport s = .next t ∧ t = { s with now := t.now, rp := t.rp, mgt := t.mgt } ∧
      t.now = max s.now s.mgt.reportDue ∧ t.mgt.reportCount = s.mgt.reportCount + 1 ∧
      t.mgt.reportDue = s.mgt.reportDue + 10000 ∧ t.mgt.timeSet = s.mgt.timeSet ∧ t.mgt.requests = s.mgt.requests ∧
      (32 ≤ s.rp.report.length → t.rp = { s.rp with repsSkipped := min top32 (s.rp.repsSkipped + 1) }) ∧
      (s.rp.report.length < 32 → t.rp = startIfIdle { s.rp with report := s.rp.report ++
        [{ dst := s.img.station.reportDest, src := s.rp.own, kind := 8,
           payload := reportPayload { s with mgt := { s.mgt with time := t.mgt.time } } }] })) ∧
  (∀ (src : Byte) (payload : Option Byte) (s : State),
    exec (.malformedRequest src payload) s = .next { s with mgt := { s.mgt with
      malformed := min top32 (s.mgt.malformed + 1)
      requests := s.mgt.requests.erase
        { dst := s.rp.own, src := src, kind := 6, payload := payload.toList } } }) ∧
  (∀ (src tag code : Byte) (args : List Byte) (s : State), badForm code args = true →
    exec (.badRequest src tag code args) s = .next { s with
      rp := placeResponse { dst := src, src := s.rp.own, kind := 7, payload := [tag, code, 3, 0] } s.rp
      mgt := { s.mgt with
        requests := s.mgt.requests.erase
          { dst := s.rp.own, src := src, kind := 6, payload := tag :: code :: args } } }) ∧
  (∀ (src tag : Byte) (count : BitVec 48) (s : State), Admitted .timeSet src s →
    ∃ t, exec (.timeSet src tag count) s = .next t ∧ t = { s with rp := t.rp, mgt := t.mgt, recs := t.recs } ∧
      t.mgt.time = count ∧ t.mgt.timeSet = true ∧ t.mgt.reportDue = s.mgt.reportDue ∧
      t.rp = (answered .timeSet src tag (wordBytes 6 count) { result := .ok } s).rp ∧
      LoggedOne s t .part .timeSet
        { tag := some tag.toNat, number := some (s.mgt.time.toNat % 4294967296) }) ∧
  (∀ (src tag : Byte) (s : State), Admitted .restart src s → s.sst.settings ≠ .base .trial →
    ∃ t, exec (.restart src tag) s = .next t ∧ t.now = s.now ∧ t.img = s.img ∧ t.mgt.warmReset = some s.now ∧
      t.mgt.time = s.mgt.time ∧ t.recs.readPtr = none ∧ t.recs.enabled = s.recs.enabled ∧ t.rp.own = s.rp.own ∧
      t.rp.forward = [] ∧ t.rp.turn = .forward ∧
      (s.rp.sending ≠ none → t.rp.sending = s.rp.sending ∧ t.rp.trip = s.rp.trip) ∧
      (∀ p : Fin 32, t.point p =
        { state := if s.img.inputs[p].inUse then .warming else .unmapped, history := [], seq := none, warm := 0,
          saturating := false, overflow := (s.point p).overflow,
          freshness := if s.img.inputs[p].inUse then some s.now else none, freshSince := (s.point p).freshSince }) ∧
      t.msu.presentations = [] ∧ t.msu.frames = [] ∧
      (∀ f : Fin 8, (t.prot f).theta = (s.prot f).theta ∧ (t.prot f).selection = (s.prot f).selection ∧
        (t.prot f).inhibit = (s.prot f).inhibit ∧ (t.prot f).rise = .quiet ∧ (t.prot f).demand = none) ∧
      ((∀ k : Fin 9, (∀ x, (s.slot k).breakerCmd = some x → x.cmd = .trip) ∧ (s.slot k).contactorCmd = none) →
        t.rct = s.rct ∧ t.sco = s.sco ∧ t.fsq.slots = s.fsq.slots ∧
        t.rp = startIfIdle { s.rp with
          forward := [], control := [], turn := .forward
          report := [{ dst := src, src := s.rp.own, kind := 7,
                       payload := responsePayload tag (codeOf .restart)
                         { result := .ok, body := beBytes 4 (s.recs.latest + 1).toNat } }] } ∧
        (∀ f : Fin 8, (t.feeder f).state =
          (match (s.feeder f).state with
            | .opened | .closed | .lockout => .unresolved
            | st => st)) ∧
        LoggedOne s t .part .restart { tag := some tag.toNat }) ∧
      (∀ (k : Fin 9) (x : Command),
        (∀ j : Fin 9, (∀ y, (s.slot j).breakerCmd = some y → y.cmd = .trip) ∧
          (j ≠ k → (s.slot j).contactorCmd = none)) →
        (s.slot k).contactorCmd = some x → x.cmd = .testOn ∨ x.cmd = .testOff →
        (t.slot k).contactorCmd =
          some { x with tag := (s.slot k).nextTag, echoed := false, echo := some s.now } ∧
        (t.ltu.record.map (·.stage)) = s.ltu.record.map (·.stage))) ∧
  (∀ (src tag : Byte) (s : State), Admitted .restart src s → s.sst.settings = .base .trial →
    (∀ x, changeChecks s s.sst.reference = some x →
      exec (.restart src tag) s = .next (answered .restart src tag [] (refusedReply x) s)) ∧
    (changeChecks s s.sst.reference = none →
      ∃ t, exec (.restart src tag) s = .next t ∧ t.now = s.now ∧ t.mgt.warmReset = some s.now ∧
        t.img = s.sst.reference ∧ t.sst.settings = .base (if s.sst.refDefault then .default else .stored) ∧
        t.sst.reference = s.sst.reference ∧ t.sst.stored = s.sst.stored ∧ t.sst.storedValid = s.sst.storedValid ∧
        t.sst.staging = s.sst.staging ∧ t.rp.forward = [] ∧ t.recs.readPtr = none ∧
        (∀ f : Fin 8, (t.prot f).theta = (s.prot f).theta)))

/-! ### Feeder requests -/

/-- FEEDER_CLOSE, FEEDER_OPEN, RESET_LOCKOUT and RESET_BF, admitted, on one feeder (R79, R86, R91): a close into a
dead line awaits its line test with class OPERATOR, a live-line close with permission begins at once, and one without
permission is NOT_PERMITTED with LIVE_SOURCE_UNKNOWN; an open of a closed feeder issues OPEN; the resets need the slot
to report OPEN, and a lockout's reset reloads the shots. The acting forms are answered OK, and a feeder number above 7
BAD_ARG. That the answer of a close carries the state before the arbiter's look, TEST_WAIT, is the model's choice
(notes/assumptions/14.md). -/
def Obligations.FeederRequestsAct : Prop :=
  (∀ (src tag b : Byte) (s : State), 8 ≤ b.toNat →
    (Admitted .feederClose src s →
      exec (.feederClose src tag b) s = .next (answered .feederClose src tag [b] { result := .badArg } s)) ∧
    (Admitted .feederOpen src s →
      exec (.feederOpen src tag b) s = .next (answered .feederOpen src tag [b] { result := .badArg } s)) ∧
    (Admitted .resetLockout src s →
      exec (.resetLockout src tag b) s = .next (answered .resetLockout src tag [b] { result := .badArg } s)) ∧
    (Admitted .resetBf src s →
      exec (.resetBf src tag b) s = .next (answered .resetBf src tag [b] { result := .badArg } s))) ∧
  ∀ (src tag b : Byte) (f : Fin 8) (k : Fin 9) (s : State), feederArg b = some f → k = slotOf s.img f →
    (Admitted .feederClose src s →
      (∀ r, closeRefusal s f = some r → exec (.feederClose src tag b) s = .next (answered .feederClose src tag [b]
        { result := r, body := beBytes 1 (feederStateCode (s.feeder f).state) } s)) ∧
      ((s.feeder f).state = .opened → (s.feeder f).mask = false → (s.feeder f).permit = false →
        slotReady s k = true → (lineValue s f).isSome = true →
        (lineLive s f = false →
          ∃ u, exec (.feederClose src tag b) s = .next (latchRises s
              (respond src tag 16 { result := .ok, body := [3] } (arbitrate u))) ∧
            (u.feeder f).state = .testWait ∧ (u.feeder f).cls = some .operator ∧
            u.ltu = { s.ltu with queue := s.ltu.queue ++ [(f, .operator)] } ∧
            u = { s with mgt := u.mgt, fsq := u.fsq, ltu := u.ltu } ∧
            u.fsq = { s.fsq with feeders := s.fsq.feeders.set f (u.feeder f) }) ∧
        (lineLive s f = true → livePermission s f = true → controlFull s.rp = false →
          ∃ t, exec (.feederClose src tag b) s = .next t ∧ (t.feeder f).state = .closing ∧
            (t.feeder f).cls = some .operator ∧ (t.feeder f).stateTimer = some s.now ∧
            ((t.slot k).breakerCmd.map (·.cmd)) = some .close ∧ t.ltu = s.ltu ∧ t.rct = s.rct ∧
            t.rp = placeResponse
              { dst := src, src := s.rp.own, kind := 7, payload := responsePayload tag 16 { result := .ok, body := [5] } }
              (placeCommand
                { dst := s.img.breakers[k].address, src := s.rp.own, kind := 2, payload := [1, (s.slot k).nextTag] }
                s.rp)) ∧
        (lineLive s f = true → livePermission s f = false →
          ∃ t, exec (.feederClose src tag b) s = .next t ∧ t.fsq = s.fsq ∧ t.ltu = s.ltu ∧
            t = { answered .feederClose src tag [b] { result := .notPermitted, body := [2] } s with recs := t.recs } ∧
            latchSet t .liveSourceUnknown = true))) ∧
    (Admitted .feederOpen src s →
      ((s.feeder f).state = .closed ∨ (s.feeder f).state = .closing → controlFull s.rp = false →
        ∃ t, exec (.feederOpen src tag b) s = .next t ∧ (t.feeder f).state = .opening ∧
          (t.feeder f).stateTimer = some s.now ∧ (t.feeder f).reclaim = none ∧
          ((t.slot k).breakerCmd.map (·.cmd)) = some .open ∧ (∀ g, g ≠ f → t.feeder g = s.feeder g) ∧
          t.rp = placeResponse
            { dst := src, src := s.rp.own, kind := 7, payload := responsePayload tag 17 { result := .ok } }
            (placeCommand
              { dst := s.img.breakers[k].address, src := s.rp.own, kind := 2, payload := [2, (s.slot k).nextTag] }
              s.rp)) ∧
      ((s.feeder f).state = .deadTime ∨ (s.feeder f).state = .remoteWait ∨ (s.feeder f).state = .testWait →
        ∃ t, exec (.feederOpen src tag b) s = .next t ∧ (t.feeder f).state = .opened ∧
          (t.feeder f).shots = s.img.feeders[f].shots ∧
          t.rp = (answered .feederOpen src tag [b] { result := .ok } s).rp ∧
          ((s.feeder f).state = .testWait → ∀ c, (f, c) ∉ t.ltu.queue)) ∧
      ((s.feeder f).state = .testing →
        ∃ t, exec (.feederOpen src tag b) s = .next (latchRises s (respond src tag 17 { result := .ok } t)) ∧
          (t.feeder f).state = .opened ∧
          (∀ r, s.ltu.record = some r → r.feeder = some f → t.ltu.circuit ≠ s.ltu.circuit ∨
            s.ltu.circuit = .disconnecting ∨ s.ltu.circuit = .outOfService ∨ s.ltu.circuit = .idle)) ∧
      ((s.feeder f).state = .opened ∨ (s.feeder f).state = .lockout →
        exec (.feederOpen src tag b) s = .next (answered .feederOpen src tag [b] { result := .ok } s)) ∧
      ((s.feeder f).state = .tripping ∨ (s.feeder f).state = .opening ∨ (s.feeder f).state = .unresolved ∨
          (s.feeder f).state = .disabled ∨ (s.feeder f).state = .breakerFail →
        exec (.feederOpen src tag b) s = .next (answered .feederOpen src tag [b] { result := .wrongState } s))) ∧
    (Admitted .resetLockout src s →
      ((s.feeder f).state = .lockout → reportsOpen s f = true →
        ∃ t, exec (.resetLockout src tag b) s = .next t ∧ (t.feeder f).state = .opened ∧
          (t.feeder f).lockoutFlag = false ∧ (t.feeder f).shots = s.img.feeders[f].shots ∧
          (∀ g, g ≠ f → t.feeder g = s.feeder g) ∧
          t.rp = (answered .resetLockout src tag [b] { result := .ok } s).rp ∧
          (s.sst.arbiter = .idle → t.sst.arbiter = .flags ∧ t.sst.flagsLockout[f] = false)) ∧
      ((s.feeder f).state ≠ .lockout ∨ reportsOpen s f = false →
        exec (.resetLockout src tag b) s = .next (answered .resetLockout src tag [b] { result := .wrongState } s))) ∧
    (Admitted .resetBf src s →
      ((s.feeder f).state = .breakerFail → reportsOpen s f = true →
        ∃ t, exec (.resetBf src tag b) s = .next t ∧ (t.feeder f).state = .lockout ∧
          (t.feeder f).lockoutFlag = true ∧ (∀ g, g ≠ f → t.feeder g = s.feeder g) ∧
          t.rp = (answered .resetBf src tag [b] { result := .ok } s).rp) ∧
      ((s.feeder f).state ≠ .breakerFail ∨ reportsOpen s f = false →
        exec (.resetBf src tag b) s = .next (answered .resetBf src tag [b] { result := .wrongState } s)))

/-- MASK_SET, MASK_CLEAR, WORK_PERMIT_SET, WORK_PERMIT_CLEAR and GROUP_SELECT, admitted (R22, R93, R94): each named
feeder's mask or permit takes the value and every other stands, with the event of the change; a permit is written to the
flags record; the masks are answered as they stand after the request. At a clearing FSQ looks again at the feeders in
DEAD_TIME it may release (R87). A selection is recorded and answered with a group: that this is the active group under
the new selection, and not the one that stands when the request is taken, as the rule of the request has it (R22), is
the model's choice (notes/assumptions/14.md). So are the causes FLAG_SET and FLAG_CLEAR that carry the value in
WORK_PERMIT (notes/assumptions/15.md) and the 2 bytes of the masks answered (notes/assumptions/9.md). -/
def Obligations.MasksPermitsAndSelections : Prop :=
  (∀ (src tag bitmap : Byte) (value : Bool) (s : State), Admitted (if value then .maskSet else .maskClear) src s →
    ∃ t, exec (if value then .maskSet src tag bitmap else .maskClear src tag bitmap) s = .next t ∧
      (∀ f : Fin 8, (t.feeder f).mask = (if bitmap.getLsbD f.val then value else (s.feeder f).mask)) ∧
      (∀ f : Fin 8, (t.feeder f).permit = (s.feeder f).permit) ∧ t.now = s.now ∧ t.msu = s.msu ∧ t.rct = s.rct ∧
      t.sco = s.sco ∧ t.img = s.img ∧
      (value = true → t = { s with rp := t.rp, fsq := t.fsq, recs := t.recs, mgt := t.mgt } ∧
        LoggedOne s t .part .maskChange { number := some bitmap.toNat } ∧
        ∃ w : BitVec 16, (∀ i : Nat, w.getLsbD i = (List.finRange 8).any fun f => decide (f.val = i) && (t.feeder f).mask) ∧
          t.rp = (answered .maskSet src tag [bitmap] { result := .ok, body := beBytes 2 w.toNat } s).rp)) ∧
  (∀ (src tag bitmap : Byte) (s : State), Admitted .maskClear src s →
    ∃ (u : State) (w : BitVec 16), exec (.maskClear src tag bitmap) s = .next (latchRises s (respond src tag
        (codeOf .maskClear) { result := .ok, body := beBytes 2 w.toNat } (arbitrate (deadTimeLooks u)))) ∧
      (∀ i : Nat, w.getLsbD i = (List.finRange 8).any fun f => decide (f.val = i) && (u.feeder f).mask) ∧
      u = { s with mgt := u.mgt, fsq := { s.fsq with feeders := u.fsq.feeders }, recs := u.recs } ∧
      (∀ f : Fin 8, u.feeder f =
        { s.feeder f with mask := if bitmap.getLsbD f.val then false else (s.feeder f).mask }) ∧
      LoggedOne s u .part .maskChange { number := some bitmap.toNat } ∧
      (∀ f : Fin 8,
        ((s.feeder f).state = .deadTime → (s.feeder f).stateTimer = none → (s.prot f).inhibit = false →
          (s.feeder f).permit = false → (u.feeder f).mask = false →
          ((deadTimeLooks u).feeder f).state = .testWait ∧ ((deadTimeLooks u).feeder f).cls = some .reclose) ∧
        ((s.feeder f).state ≠ .deadTime ∨ (s.feeder f).stateTimer ≠ none ∨ (s.prot f).inhibit = true ∨
            (s.feeder f).permit = true ∨ (u.feeder f).mask = true →
          (deadTimeLooks u).feeder f = u.feeder f))) ∧
  (∀ (src tag b : Byte) (f : Fin 8) (value : Bool) (s : State), feederArg b = some f →
    Admitted (if value then .workPermitSet else .workPermitClear) src s →
    ∃ t, exec (if value then .workPermitSet src tag b else .workPermitClear src tag b) s = .next t ∧
      (t.feeder f).permit = value ∧ (∀ g, g ≠ f → (t.feeder g).permit = (s.feeder g).permit) ∧ t.now = s.now ∧
      t.msu = s.msu ∧ t.rct = s.rct ∧ t.sco = s.sco ∧ t.img = s.img ∧
      (s.sst.arbiter = .idle → t.sst.arbiter = .flags ∧ t.sst.flagsPermit[f] = value) ∧
      (value = true → LoggedOne s t (.feeder f) .workPermit { causes := [.cause .flagSet] } ∧
        (latchSet t .workPermitActive = true ∨ alarmActive s .workPermitActive = true)) ∧
      (value = false → ∃ u, t = latchRises s (respond src tag (codeOf .workPermitClear) { result := .ok }
          (arbitrate (deadTimeLook f u))) ∧
        u.feeder f = { s.feeder f with permit := false } ∧
        LoggedOne s u (.feeder f) .workPermit { causes := [.cause .flagClear] })) ∧
  (∀ (src tag b x : Byte) (f : Fin 8) (sel : Selection) (s : State), feederArg b = some f → selectionArg x = some sel →
    Admitted .groupSelect src s →
    ∃ t, exec (.groupSelect src tag b x) s = .next t ∧
      t = { s with rp := t.rp, fpr := t.fpr, recs := t.recs, mgt := t.mgt } ∧ (t.prot f).selection = sel ∧
      (∀ g, g ≠ f → t.prot g = s.prot g) ∧ (t.prot f).rise = (s.prot f).rise ∧ (t.prot f).theta = (s.prot f).theta ∧
      (sel = .normal → activeGroup t f = .normal) ∧ (sel = .isolated → activeGroup t f = .isolated) ∧
      (sel = .auto → activeGroup t f = (if livePermission s f then .normal else .isolated)) ∧
      t.rp = (answered .groupSelect src tag [b, x]
        { result := .ok,
          body := beBytes 1 (selectionCode sel) ++ beBytes 1 (groupCode (activeGroup t f)) } s).rp)

/-! ### Rectifier and test circuit requests -/

/-- RECT_START, RECT_STOP, RECT_RESET and TEST_CIRCUIT_RESET, admitted (R60, R61, R68, R116): a start from STOPPED
begins the ramp at d_min with the group breaker CLOSED and issues CLOSE and waits with it open, or waits for the close
in progress, and ends in STOPPED where the close fails at once, slot 8 being in TRIPPING or FAILED or the CLOSE and
its OPEN meeting a full CONTROL queue (R95); a stop of a running rectifier ends its demand and its sync timers; a
reset takes a TRIPPED rectifier with its breaker open to STOPPED; the test circuit's reset takes it from
OUT_OF_SERVICE to IDLE where no contactor holds it back; in the other states named they are answered WRONG_STATE, and
a stop of a stopped rectifier OK. A start, a stop and a reset are answered OK with the rectifier state after them, and
the entry into RAMP sends FIRE, and that into STOPPED BLOCK, to both gate units (R55). A start is NOT_PERMITTED
without both points in use and a fitted slot 8, and a reset held back by a contactor is NOT_PERMITTED with TEST_OFF
issued again. That the answer of a reset carries the circuit's state after the arbiter's look is the model's choice
(notes/assumptions/14.md). So is the output demand d_min, with its angle, from the start of the ramp, before its first
evaluation (notes/assumptions/17.md). That a slot whose reported values a change of address made absent does not hold
the circuit's reset back until its restarted freshness timer expires, and then does, also where it has had no status
since the cold reset, is the model's choice (notes/assumptions/42.md). That a gate unit is its address is the model's
choice (notes/assumptions/35.md). -/
def Obligations.GroupRequestsAct : Prop :=
  ∀ (src tag : Byte) (s : State),
    (Admitted .rectStart src s →
      (s.rct.state = .stopped → rectPointsInUse s = true → fitted s.img 8 = true →
        (s.rct.groupPos = some .closed →
          ∃ u, exec (.rectStart src tag) s = .next (latchRises s (respond src tag (codeOf .rectStart)
              { result := .ok, body := beBytes 1 (rectStateCode .ramp) } u)) ∧
            u.rct.state = .ramp ∧ u.rct.xi = 0 ∧
            u.rct.dCl = s.img.rect.dMax ∧ u.rct.dSs = some (s.img.rect.dMin : Int) ∧
            u.rct.out = some (s.img.rect.dMin : Int) ∧
            u.rct.alpha = some (firingAngle s.img s.img.rect.dMin) ∧ u.rct.gateA.sync = some s.now ∧
            u.rct.gateB.sync = some s.now ∧ u.fsq = s.fsq ∧ u.msu = s.msu ∧
            LoggedIn s u .rectifier .rectStart { causes := [.cause .request], tag := some tag.toNat } ∧
            (ControlKept s.rp.control → SetpointsSent (gateFire (firingAngle s.img s.img.rect.dMin)) s u)) ∧
        (s.rct.groupPos ≠ some .closed → s.fsq.groupState = .idle → position s 8 ≠ some .closed →
          controlFull s.rp = false →
          ∃ u, exec (.rectStart src tag) s = .next (latchRises s (respond src tag (codeOf .rectStart)
              { result := .ok, body := beBytes 1 (rectStateCode .waitBreaker) } u)) ∧
            u.rct.state = .waitBreaker ∧ u.rct.xi = 0 ∧ u.rct.dCl = s.img.rect.dMax ∧
            u.fsq.groupState = .closing ∧ u.fsq.groupTimer = some s.now ∧
            ((u.slot 8).breakerCmd.map (·.cmd)) = some .close ∧ u.msu = s.msu ∧
            LoggedOne s u .rectifier .rectStart { causes := [.cause .request], tag := some tag.toNat }) ∧
        (s.rct.groupPos ≠ some .closed → s.fsq.groupState = .idle → position s 8 = some .closed →
          ∃ u, exec (.rectStart src tag) s = .next (latchRises s (respond src tag (codeOf .rectStart)
              { result := .ok, body := beBytes 1 (rectStateCode .ramp) } u)) ∧
            u.rct.state = .ramp ∧ u.fsq = s.fsq ∧ u.msu = s.msu ∧
            LoggedIn s u .rectifier .rectStart { causes := [.cause .request], tag := some tag.toNat }) ∧
        (s.rct.groupPos ≠ some .closed → s.fsq.groupState = .closing →
          ∃ u, exec (.rectStart src tag) s = .next (latchRises s (respond src tag (codeOf .rectStart)
              { result := .ok, body := beBytes 1 (rectStateCode .waitBreaker) } u)) ∧
            u.rct.state = .waitBreaker ∧ u.fsq = s.fsq ∧ u.msu = s.msu ∧
            LoggedOne s u .rectifier .rectStart { causes := [.cause .request], tag := some tag.toNat }) ∧
        (s.rct.groupPos ≠ some .closed → s.fsq.groupState = .tripping ∨ s.fsq.groupState = .failed ∨
            (s.fsq.groupState = .idle ∧ position s 8 ≠ some .closed ∧ controlFull s.rp = true) →
          ∃ u, exec (.rectStart src tag) s = .next (latchRises s (respond src tag (codeOf .rectStart)
              { result := .ok, body := beBytes 1 (rectStateCode .stopped) } u)) ∧
            u.rct.state = .stopped ∧ u.rct.out = none ∧ u.msu = s.msu ∧
            u.fsq.groupState = (if s.fsq.groupState = .idle then .failed else s.fsq.groupState) ∧
            (s.fsq.groupState = .idle → latchSet u .closeFail = true ∧ latchSet u .commandLost = true) ∧
            LoggedIn s u .rectifier .rectStart { causes := [.cause .request], tag := some tag.toNat } ∧
            LoggedIn s u .rectifier .rectStop { causes := [.cause .closeFail] } ∧
            (ControlKept s.rp.control → SetpointsSent gateBlock s u))) ∧
      (s.rct.state = .stopped → rectPointsInUse s = false ∨ fitted s.img 8 = false →
        exec (.rectStart src tag) s = .next (answered .rectStart src tag []
          { result := .notPermitted, body := beBytes 1 (rectStateCode s.rct.state) } s)) ∧
      (s.rct.state ≠ .stopped → exec (.rectStart src tag) s = .next (answered .rectStart src tag []
        { result := .wrongState, body := beBytes 1 (rectStateCode s.rct.state) } s))) ∧
    (Admitted .rectStop src s →
      (running s.rct.state = true →
        ∃ u, exec (.rectStop src tag) s = .next (latchRises s (respond src tag (codeOf .rectStop)
            { result := .ok, body := beBytes 1 (rectStateCode .stopped) } u)) ∧
          u.rct = { s.rct with
            state := .stopped, out := none, alpha := none, dSs := none, dRest := none, pbTimer := none, busLoss := none
            gateA := { s.rct.gateA with sync := none }, gateB := { s.rct.gateB with sync := none } } ∧
          u.msu = s.msu ∧ u.fsq.groupState = s.fsq.groupState ∧
          LoggedIn s u .rectifier .rectStop { causes := [.cause .request], tag := some tag.toNat } ∧
          (ControlKept s.rp.control → SetpointsSent gateBlock s u)) ∧
      (s.rct.state = .tripped → exec (.rectStop src tag) s = .next (answered .rectStop src tag []
        { result := .wrongState, body := beBytes 1 (rectStateCode s.rct.state) } s)) ∧
      (s.rct.state = .stopped → exec (.rectStop src tag) s = .next (answered .rectStop src tag []
        { result := .ok, body := beBytes 1 (rectStateCode s.rct.state) } s))) ∧
    (Admitted .rectReset src s →
      (s.rct.state = .tripped → s.rct.groupPos = some .opened ∨ fitted s.img 8 = false →
        ∃ u, exec (.rectReset src tag) s = .next (latchRises s (respond src tag (codeOf .rectReset)
            { result := .ok, body := beBytes 1 (rectStateCode .stopped) } u)) ∧
          u = { s with rp := u.rp, rct := { s.rct with state := .stopped }, recs := u.recs, mgt := u.mgt } ∧
          LoggedOne s u .rectifier .rectReset { tag := some tag.toNat } ∧
          (ControlKept s.rp.control → SetpointsSent gateBlock s u)) ∧
      (s.rct.state ≠ .tripped ∨ (s.rct.groupPos ≠ some .opened ∧ fitted s.img 8 = true) →
        exec (.rectReset src tag) s = .next (answered .rectReset src tag []
          { result := .wrongState, body := beBytes 1 (rectStateCode s.rct.state) } s))) ∧
    (Admitted .testCircuitReset src s →
      (s.ltu.circuit = .outOfService → (∀ k, holdsReset s k = false) →
        ∃ u, exec (.testCircuitReset src tag) s = .next (latchRises s (respond src tag 48
            { result := .ok, body := beBytes 1 (circuitCode (arbitrate u).ltu.circuit) } (arbitrate u))) ∧
          u = { s with ltu := { s.ltu with circuit := .idle, record := none }, mgt := u.mgt, recs := u.recs } ∧
          LoggedOne s u .testCircuit .testCircuitReset { tag := some tag.toNat }) ∧
      (s.ltu.circuit = .outOfService → (∃ k, holdsReset s k = true) →
        ∃ u, exec (.testCircuitReset src tag) s = .next (latchRises s (respond src tag 48
            { result := .notPermitted, body := beBytes 1 (circuitCode .outOfService) } u)) ∧
          u = { s with mgt := u.mgt, fsq := u.fsq, rp := u.rp, recs := u.recs } ∧ u.fsq.feeders = s.fsq.feeders ∧
          (∀ k, contactorSlot s.img k = true → contactorOn s k = true → s.rp.control.length ≤ 6 →
            ((u.slot k).contactorCmd.map (·.cmd)) = some .testOff)) ∧
      (s.ltu.circuit ≠ .outOfService → exec (.testCircuitReset src tag) s = .next
        (answered .testCircuitReset src tag []
          { result := .wrongState, body := beBytes 1 (circuitCode s.ltu.circuit) } s)))

/-! ### Records requests -/

/-- CLEAR_ALARMS clears of the named latches those whose condition is inactive, after MSU's overflow flags where no
in-use point saturates, and leaves the flags as they are where one does (R7, R166). It logs the latches it clears, and
nothing where it clears none, and answers with the latches after it and those named that stayed. ALARM_ENABLE_SET and
ALARM_ENABLE_CLEAR change the named enables, log them and answer them (R167). That an answer gives its bitmaps in 4
bytes is the model's choice (notes/assumptions/9.md). -/
def Obligations.AlarmRequestsAct : Prop :=
  (∀ (src tag : Byte) (bitmap : BitVec 24) (s : State), Admitted .clearAlarms src s →
    ∃ t, exec (.clearAlarms src tag bitmap) s = .next t ∧
      t = { s with rp := t.rp, msu := t.msu, recs := t.recs, mgt := t.mgt } ∧
      t.recs.latched = s.recs.latched &&& ~~~(bitmap &&& ~~~activeMask t) ∧ t.recs.enabled = s.recs.enabled ∧
      (bitmap &&& alarmBit .mpOverflow = 0 → t.msu = s.msu) ∧
      (∀ p : Fin 32, bitmap &&& alarmBit .mpOverflow ≠ 0 →
        (∀ q : Fin 32, s.img.inputs[q].inUse = true → (s.point q).saturating = false) →
        t.point p = { s.point p with overflow := false }) ∧
      (∀ q : Fin 32, s.img.inputs[q].inUse = true → (s.point q).saturating = true → t.msu = s.msu) ∧
      (s.recs.latched &&& bitmap &&& ~~~activeMask t = 0 → t.recs.log = s.recs.log) ∧
      (s.recs.latched &&& bitmap &&& ~~~activeMask t ≠ 0 → LoggedOne s t .part .alarmsCleared
        { tag := some tag.toNat, number := some (s.recs.latched &&& bitmap &&& ~~~activeMask t).toNat }) ∧
      t.rp = (respond src tag (codeOf .clearAlarms)
        { result := .ok, body := beBytes 4 t.recs.latched.toNat ++
            beBytes 4 (s.recs.latched &&& bitmap &&& activeMask t).toNat } s).rp) ∧
  (∀ (src tag : Byte) (bitmap : BitVec 24) (value : Bool) (s : State),
    Admitted (if value then .alarmEnableSet else .alarmEnableClear) src s →
    ∃ t, exec (if value then .alarmEnableSet src tag bitmap else .alarmEnableClear src tag bitmap) s = .next t ∧
      t = { s with rp := t.rp, recs := t.recs, mgt := t.mgt } ∧ t.recs.latched = s.recs.latched ∧
      t.recs.enabled = (if value then s.recs.enabled ||| bitmap else s.recs.enabled &&& ~~~bitmap) ∧
      LoggedOne s t .part .alarmEnable { tag := some tag.toNat, number := some t.recs.enabled.toNat } ∧
      t.rp = (respond src tag (codeOf (if value then .alarmEnableSet else .alarmEnableClear))
        { result := .ok, body := beBytes 4 t.recs.enabled.toNat } s).rp)

/-- The capture and snapshot requests, admitted (R170, R172, R173, R175): a manual trigger takes a recording segment
into POST with its header, changes nothing of a segment in POST, and is logged missed where none records; a readout
leaves the segment and moves the read pointer by the rows returned; a release frees a frozen segment; SNAPSHOT latches
the present values once, and READ_SNAPSHOT returns and clears them. With post rows 0 the trigger freezes the segment
at once, its header completed with the latest row as the trigger row (R171). The header's channels are those of the
table at the trigger (notes/assumptions/15.md) and END within a readout's body is set as notes/assumptions/28.md says:
the model's choices. -/
def Obligations.RecordRequestsAct : Prop :=
  ∀ (src tag : Byte) (s : State),
    (Admitted .captureTrigger src s →
      (∀ i, activeSegment s.recs = some i → s.recs.segments[i].state = .recording → 0 < s.img.capture.postRows →
        ∃ t, exec (.captureTrigger src tag) s = .next t ∧ t = { s with rp := t.rp, recs := t.recs, mgt := t.mgt } ∧
          t.recs = { s.recs with segments := s.recs.segments.set i { s.recs.segments[i] with
            state := .post, postCount := 0,
            header := some
              { record := 0, cause := .manual, time := s.mgt.time, timeSet := s.mgt.timeSet,
                hasTrigger := !s.recs.segments[i].rows.isEmpty, validRows := 0, triggerRow := none, postRows := 0,
                channels := captureChannels s.img } } }) ∧
      (∀ i, activeSegment s.recs = some i → s.recs.segments[i].state = .recording → s.img.capture.postRows = 0 →
        ∃ t, exec (.captureTrigger src tag) s = .next t ∧ t = { s with rp := t.rp, recs := t.recs, mgt := t.mgt } ∧
          t.recs.segments[i] = { s.recs.segments[i] with
            state := .frozen, postCount := 0
            header := some
              { record := s.recs.frozen + 1, cause := .manual, time := s.mgt.time, timeSet := s.mgt.timeSet,
                hasTrigger := !s.recs.segments[i].rows.isEmpty, validRows := s.recs.segments[i].rows.length,
                triggerRow := if s.recs.segments[i].rows.isEmpty then none
                  else some (s.recs.segments[i].rows.length - 1),
                postRows := 0, channels := captureChannels s.img } } ∧
          t.recs.frozen = s.recs.frozen + 1 ∧
          LoggedOne s t .part .captureFrozen
            { causes := [.cause .manual], tag := some i.val, number := some (s.recs.frozen + 1) }) ∧
      (∀ i, activeSegment s.recs = some i → s.recs.segments[i].state = .post →
        ∃ t, exec (.captureTrigger src tag) s = .next t ∧ t.recs = s.recs) ∧
      (activeSegment s.recs = none →
        ∃ t, exec (.captureTrigger src tag) s = .next t ∧ t.recs.segments = s.recs.segments ∧
          LoggedOne s t .part .captureMissed { causes := [.cause .manual] })) ∧
    (Admitted .readCapture src s →
      ∀ (segment count : Byte) (start : BitVec 16) (i : Fin 4) (h : Header), segmentArg segment = some i →
        1 ≤ count.toNat → count.toNat ≤ 32 → frozenRecord s i = some h →
        (start.toNat < h.validRows →
          exec (.readCapture src tag segment start count) s = .next (answered .readCapture src tag
            ([segment] ++ wordBytes 2 start ++ [count])
            { result := .ok, body := captureBody i s.recs.segments[i] h start.toNat count.toNat }
            (s.setRecs { s.recs with
              readPtr := some
                { segment := i, record := h.record,
                  row := start.toNat + (readRows i s.recs.segments[i] h start.toNat count.toNat).length } }))) ∧
        (h.validRows ≤ start.toNat →
          exec (.readCapture src tag segment start count) s = .next (answered .readCapture src tag
            ([segment] ++ wordBytes 2 start ++ [count]) { result := .badArg } s))) ∧
    (Admitted .readCaptureNext src s →
      ∀ (count : Byte) (p : ReadPtr) (h : Header), 1 ≤ count.toNat → count.toNat ≤ 32 → s.recs.readPtr = some p →
        frozenRecord s p.segment = some h →
        exec (.readCaptureNext src tag count) s = .next (answered .readCaptureNext src tag [count]
          { result := .ok, body := captureBody p.segment s.recs.segments[p.segment] h p.row count.toNat }
          (s.setRecs { s.recs with
            readPtr := some
              { segment := p.segment, record := h.record,
                row := p.row + (readRows p.segment s.recs.segments[p.segment] h p.row count.toNat).length } }))) ∧
    (Admitted .captureRelease src s →
      ∀ (segment : Byte) (i : Fin 4), segmentArg segment = some i →
        (s.recs.segments[i].state = .frozen →
          ∃ t, exec (.captureRelease src tag segment) s = .next t ∧
            t = { s with rp := t.rp, recs := t.recs, mgt := t.mgt } ∧ t.recs.segments[i].rows = [] ∧
            t.recs.segments[i].state = (if activeSegment s.recs = none then .recording else .free) ∧
            (∀ j, j ≠ i → t.recs.segments[j] = s.recs.segments[j]) ∧
            t.recs.readPtr = (s.recs.readPtr.filter fun x => decide (x.segment ≠ i)) ∧
            LoggedOne s t .part .captureReleased { tag := some i.val }) ∧
        (s.recs.segments[i].state ≠ .frozen →
          exec (.captureRelease src tag segment) s = .next
            (answered .captureRelease src tag [segment] { result := .wrongState } s))) ∧
    (Admitted .snapshot src s →
      (s.recs.snapshot = none →
        ∃ x, exec (.snapshot src tag) s = .next (answered .snapshot src tag [] { result := .ok }
            (s.setRecs { s.recs with snapshot := some x })) ∧
          x.time = s.mgt.time ∧ x.rect = s.rct.state ∧ x.out = s.rct.out ∧ x.alpha = s.rct.alpha ∧
          (∀ p : Fin 32, x.points[p] = { state := (s.point p).state, value := (s.point p).history.head? }) ∧
          ∀ f : Fin 8, x.thetas[f] = (s.prot f).theta) ∧
      (s.recs.snapshot ≠ none →
        exec (.snapshot src tag) s = .next (answered .snapshot src tag [] { result := .alreadyLatched } s))) ∧
    (Admitted .readSnapshot src s →
      (∀ x, s.recs.snapshot = some x →
        exec (.readSnapshot src tag) s = .next (answered .readSnapshot src tag []
          { result := .ok, body := snapshotBody x false } (s.setRecs { s.recs with snapshot := none }))) ∧
      (s.recs.snapshot = none →
        exec (.readSnapshot src tag) s = .next (answered .readSnapshot src tag []
          { result := .ok, body := snapshotBody (takeSnapshot s) true } s)))

/-! ### The whole part -/

/-- Every step keeps every active alarm latched (R165, R166). -/
def Obligations.EveryStepKeepsActiveAlarmsLatched : Prop :=
  ∀ s t : State, AlarmsLatched s → step s = .next t → AlarmsLatched t

/-- Every step keeps the ring output working and its four queues within their limits (R139 to R144): TRIP at 8 frames
with one for each slot, FORWARD at 4, CONTROL at 16 frames, of them at most 14 breaker commands and no others but one
setpoint for each gate unit, and REPORT at 32. A gate unit is its address (notes/assumptions/35.md). -/
def Obligations.EveryStepKeepsTheRingOutput : Prop :=
  ∀ s t : State, RingKept s → step s = .next t → RingKept t

/-- Every step keeps the event log at most 256 records numbered without a gap (R163), the store arbiter consistent
with the commit in progress (R153, R157), and the images, the feeders' service and the test queue: the in-use image,
the reference image and the candidate of a commit pass the content checks, a feeder is DISABLED exactly while it is
out of service, and the test queue holds each feeder in TEST_WAIT once, with its class, and no other (R148, R152, R97,
R101). -/
def Obligations.EveryStepKeepsTheLogAndTheStore : Prop :=
  (∀ s t : State, LogKept s → step s = .next t → LogKept t) ∧
  (∀ s t : State, StoreKept s → step s = .next t → StoreKept t) ∧
  (∀ s t : State, ServiceKept s → step s = .next t → ServiceKept t)

/-- Only a cold reset, the completion of a commit, and the requests APPLY_TRIAL, REVERT_TRIAL and RESTART can change the
in-use image (R155, R159, R161). -/
def Obligations.TheInUseImageChangesOnlyAtASwitch : Prop :=
  ∀ (c : Instr) (s t : State), exec c s = .next t → mayChangeImage c = false → t.img = s.img

/-- The next state of every cold reset meets the part's invariants, whatever the straps, the key, the store and the
state before it (R159, R168, R163, R146, R98, R152). The model's reset state meets them too; which cold reset it
stands for is the model's choice (notes/assumptions/1.md). -/
def Obligations.TheInvariantsHoldAfterReset : Prop :=
  (∀ (straps : Byte) (key : KeyPos) (imageCheck flagsCheck : Bool) (s : State),
    ∃ t, exec (.coldReset straps key imageCheck flagsCheck) s = .next t ∧
      AlarmsLatched t ∧ RingKept t ∧ LogKept t ∧ StoreKept t ∧ ServiceKept t) ∧
  AlarmsLatched State.reset ∧ RingKept State.reset ∧ LogKept State.reset ∧ StoreKept State.reset ∧
  ServiceKept State.reset
end

