-- ==== Sys2Proof/Laws/State.lean ====
section
/-! SUPPORT. What each update of State's records leaves and gives: one lemma per field per update. -/

namespace Sys2Proof.Machine

/-! ### Banks -/

/-- A record set in a bank leaves the others. -/
theorem bank_set_ne {α : Type} {n : Nat} (v : Bank α n) {i q : Fin n} (h : q ≠ i) (x : α) : (v.set i x)[q] = v[q] := by
  have hn : i.val ≠ q.val := fun e => h (Fin.ext e.symm)
  exact Vector.getElem_set_ne i.isLt q.isLt hn

/-- A tabulated bank gives its record at each number. -/
@[simp] theorem tabulate_get {α : Type} {n : Nat} (f : Fin n → α) (i : Fin n) : (tabulate f)[i] = f i := by
  simp [tabulate]

/-- A mapped bank gives the image of its record at each number. -/
@[simp] theorem mapBank_get {α β : Type} {n : Nat} (f : α → β) (v : Bank α n) (i : Fin n) :
    (mapBank f v)[i] = f v[i] := by
  simp [mapBank]

/-- Two banks with the same record at each number are equal. -/
theorem bank_ext {α : Type} {n : Nat} {v w : Bank α n} (h : ∀ i : Fin n, v[i] = w[i]) : v = w := by
  apply Vector.ext
  intro i hi
  exact h ⟨i, hi⟩

/-- A fold over the numbers of a bank keeps what each of its steps keeps. -/
theorem forEach_keeps {σ β : Type} (g : σ → β) {n : Nat} {f : Fin n → σ → σ} (h : ∀ i x, g (f i x) = g x) (s : σ) :
    g (forEach n f s) = g s := by
  have aux : ∀ (l : List (Fin n)) (x : σ), g (l.foldl (fun s i => f i s) x) = g x := by
    intro l
    induction l with
    | nil => intro x; rfl
    | cons i l ih => intro x; simp only [List.foldl_cons]; rw [ih, h]
  exact aux _ s

variable (s : State)

/-! ### `setRp` -/

@[simp] theorem State.setRp_pending (x : RingPort) : (s.setRp x).pending = s.pending := rfl
@[simp] theorem State.setRp_now (x : RingPort) : (s.setRp x).now = s.now := rfl
@[simp] theorem State.setRp_rp (x : RingPort) : (s.setRp x).rp = x := rfl
@[simp] theorem State.setRp_msu (x : RingPort) : (s.setRp x).msu = s.msu := rfl
@[simp] theorem State.setRp_fpr (x : RingPort) : (s.setRp x).fpr = s.fpr := rfl
@[simp] theorem State.setRp_rct (x : RingPort) : (s.setRp x).rct = s.rct := rfl
@[simp] theorem State.setRp_fsq (x : RingPort) : (s.setRp x).fsq = s.fsq := rfl
@[simp] theorem State.setRp_ltu (x : RingPort) : (s.setRp x).ltu = s.ltu := rfl
@[simp] theorem State.setRp_sco (x : RingPort) : (s.setRp x).sco = s.sco := rfl
@[simp] theorem State.setRp_sst (x : RingPort) : (s.setRp x).sst = s.sst := rfl
@[simp] theorem State.setRp_recs (x : RingPort) : (s.setRp x).recs = s.recs := rfl
@[simp] theorem State.setRp_mgt (x : RingPort) : (s.setRp x).mgt = s.mgt := rfl
@[simp] theorem State.setRp_freeCount (x : RingPort) : (s.setRp x).freeCount = s.freeCount := rfl

/-! ### `setMsu` -/

@[simp] theorem State.setMsu_pending (x : Msu) : (s.setMsu x).pending = s.pending := rfl
@[simp] theorem State.setMsu_now (x : Msu) : (s.setMsu x).now = s.now := rfl
@[simp] theorem State.setMsu_rp (x : Msu) : (s.setMsu x).rp = s.rp := rfl
@[simp] theorem State.setMsu_msu (x : Msu) : (s.setMsu x).msu = x := rfl
@[simp] theorem State.setMsu_fpr (x : Msu) : (s.setMsu x).fpr = s.fpr := rfl
@[simp] theorem State.setMsu_rct (x : Msu) : (s.setMsu x).rct = s.rct := rfl
@[simp] theorem State.setMsu_fsq (x : Msu) : (s.setMsu x).fsq = s.fsq := rfl
@[simp] theorem State.setMsu_ltu (x : Msu) : (s.setMsu x).ltu = s.ltu := rfl
@[simp] theorem State.setMsu_sco (x : Msu) : (s.setMsu x).sco = s.sco := rfl
@[simp] theorem State.setMsu_sst (x : Msu) : (s.setMsu x).sst = s.sst := rfl
@[simp] theorem State.setMsu_recs (x : Msu) : (s.setMsu x).recs = s.recs := rfl
@[simp] theorem State.setMsu_mgt (x : Msu) : (s.setMsu x).mgt = s.mgt := rfl
@[simp] theorem State.setMsu_freeCount (x : Msu) : (s.setMsu x).freeCount = s.freeCount := rfl

/-! ### `setRct` -/

@[simp] theorem State.setRct_pending (x : Rect) : (s.setRct x).pending = s.pending := rfl
@[simp] theorem State.setRct_now (x : Rect) : (s.setRct x).now = s.now := rfl
@[simp] theorem State.setRct_rp (x : Rect) : (s.setRct x).rp = s.rp := rfl
@[simp] theorem State.setRct_msu (x : Rect) : (s.setRct x).msu = s.msu := rfl
@[simp] theorem State.setRct_fpr (x : Rect) : (s.setRct x).fpr = s.fpr := rfl
@[simp] theorem State.setRct_rct (x : Rect) : (s.setRct x).rct = x := rfl
@[simp] theorem State.setRct_fsq (x : Rect) : (s.setRct x).fsq = s.fsq := rfl
@[simp] theorem State.setRct_ltu (x : Rect) : (s.setRct x).ltu = s.ltu := rfl
@[simp] theorem State.setRct_sco (x : Rect) : (s.setRct x).sco = s.sco := rfl
@[simp] theorem State.setRct_sst (x : Rect) : (s.setRct x).sst = s.sst := rfl
@[simp] theorem State.setRct_recs (x : Rect) : (s.setRct x).recs = s.recs := rfl
@[simp] theorem State.setRct_mgt (x : Rect) : (s.setRct x).mgt = s.mgt := rfl
@[simp] theorem State.setRct_freeCount (x : Rect) : (s.setRct x).freeCount = s.freeCount := rfl

/-! ### `setFsq` -/

@[simp] theorem State.setFsq_pending (x : Fsq) : (s.setFsq x).pending = s.pending := rfl
@[simp] theorem State.setFsq_now (x : Fsq) : (s.setFsq x).now = s.now := rfl
@[simp] theorem State.setFsq_rp (x : Fsq) : (s.setFsq x).rp = s.rp := rfl
@[simp] theorem State.setFsq_msu (x : Fsq) : (s.setFsq x).msu = s.msu := rfl
@[simp] theorem State.setFsq_fpr (x : Fsq) : (s.setFsq x).fpr = s.fpr := rfl
@[simp] theorem State.setFsq_rct (x : Fsq) : (s.setFsq x).rct = s.rct := rfl
@[simp] theorem State.setFsq_fsq (x : Fsq) : (s.setFsq x).fsq = x := rfl
@[simp] theorem State.setFsq_ltu (x : Fsq) : (s.setFsq x).ltu = s.ltu := rfl
@[simp] theorem State.setFsq_sco (x : Fsq) : (s.setFsq x).sco = s.sco := rfl
@[simp] theorem State.setFsq_sst (x : Fsq) : (s.setFsq x).sst = s.sst := rfl
@[simp] theorem State.setFsq_recs (x : Fsq) : (s.setFsq x).recs = s.recs := rfl
@[simp] theorem State.setFsq_mgt (x : Fsq) : (s.setFsq x).mgt = s.mgt := rfl
@[simp] theorem State.setFsq_freeCount (x : Fsq) : (s.setFsq x).freeCount = s.freeCount := rfl

/-! ### `setLtu` -/

@[simp] theorem State.setLtu_pending (x : Ltu) : (s.setLtu x).pending = s.pending := rfl
@[simp] theorem State.setLtu_now (x : Ltu) : (s.setLtu x).now = s.now := rfl
@[simp] theorem State.setLtu_rp (x : Ltu) : (s.setLtu x).rp = s.rp := rfl
@[simp] theorem State.setLtu_msu (x : Ltu) : (s.setLtu x).msu = s.msu := rfl
@[simp] theorem State.setLtu_fpr (x : Ltu) : (s.setLtu x).fpr = s.fpr := rfl
@[simp] theorem State.setLtu_rct (x : Ltu) : (s.setLtu x).rct = s.rct := rfl
@[simp] theorem State.setLtu_fsq (x : Ltu) : (s.setLtu x).fsq = s.fsq := rfl
@[simp] theorem State.setLtu_ltu (x : Ltu) : (s.setLtu x).ltu = x := rfl
@[simp] theorem State.setLtu_sco (x : Ltu) : (s.setLtu x).sco = s.sco := rfl
@[simp] theorem State.setLtu_sst (x : Ltu) : (s.setLtu x).sst = s.sst := rfl
@[simp] theorem State.setLtu_recs (x : Ltu) : (s.setLtu x).recs = s.recs := rfl
@[simp] theorem State.setLtu_mgt (x : Ltu) : (s.setLtu x).mgt = s.mgt := rfl
@[simp] theorem State.setLtu_freeCount (x : Ltu) : (s.setLtu x).freeCount = s.freeCount := rfl

/-! ### `setSco` -/

@[simp] theorem State.setSco_pending (x : Sco) : (s.setSco x).pending = s.pending := rfl
@[simp] theorem State.setSco_now (x : Sco) : (s.setSco x).now = s.now := rfl
@[simp] theorem State.setSco_rp (x : Sco) : (s.setSco x).rp = s.rp := rfl
@[simp] theorem State.setSco_msu (x : Sco) : (s.setSco x).msu = s.msu := rfl
@[simp] theorem State.setSco_fpr (x : Sco) : (s.setSco x).fpr = s.fpr := rfl
@[simp] theorem State.setSco_rct (x : Sco) : (s.setSco x).rct = s.rct := rfl
@[simp] theorem State.setSco_fsq (x : Sco) : (s.setSco x).fsq = s.fsq := rfl
@[simp] theorem State.setSco_ltu (x : Sco) : (s.setSco x).ltu = s.ltu := rfl
@[simp] theorem State.setSco_sco (x : Sco) : (s.setSco x).sco = x := rfl
@[simp] theorem State.setSco_sst (x : Sco) : (s.setSco x).sst = s.sst := rfl
@[simp] theorem State.setSco_recs (x : Sco) : (s.setSco x).recs = s.recs := rfl
@[simp] theorem State.setSco_mgt (x : Sco) : (s.setSco x).mgt = s.mgt := rfl
@[simp] theorem State.setSco_freeCount (x : Sco) : (s.setSco x).freeCount = s.freeCount := rfl

/-! ### `setSst` -/

@[simp] theorem State.setSst_pending (x : Sst) : (s.setSst x).pending = s.pending := rfl
@[simp] theorem State.setSst_now (x : Sst) : (s.setSst x).now = s.now := rfl
@[simp] theorem State.setSst_rp (x : Sst) : (s.setSst x).rp = s.rp := rfl
@[simp] theorem State.setSst_msu (x : Sst) : (s.setSst x).msu = s.msu := rfl
@[simp] theorem State.setSst_fpr (x : Sst) : (s.setSst x).fpr = s.fpr := rfl
@[simp] theorem State.setSst_rct (x : Sst) : (s.setSst x).rct = s.rct := rfl
@[simp] theorem State.setSst_fsq (x : Sst) : (s.setSst x).fsq = s.fsq := rfl
@[simp] theorem State.setSst_ltu (x : Sst) : (s.setSst x).ltu = s.ltu := rfl
@[simp] theorem State.setSst_sco (x : Sst) : (s.setSst x).sco = s.sco := rfl
@[simp] theorem State.setSst_sst (x : Sst) : (s.setSst x).sst = x := rfl
@[simp] theorem State.setSst_recs (x : Sst) : (s.setSst x).recs = s.recs := rfl
@[simp] theorem State.setSst_mgt (x : Sst) : (s.setSst x).mgt = s.mgt := rfl
@[simp] theorem State.setSst_freeCount (x : Sst) : (s.setSst x).freeCount = s.freeCount := rfl

/-! ### `setRecs` -/

@[simp] theorem State.setRecs_pending (x : Records) : (s.setRecs x).pending = s.pending := rfl
@[simp] theorem State.setRecs_now (x : Records) : (s.setRecs x).now = s.now := rfl
@[simp] theorem State.setRecs_rp (x : Records) : (s.setRecs x).rp = s.rp := rfl
@[simp] theorem State.setRecs_msu (x : Records) : (s.setRecs x).msu = s.msu := rfl
@[simp] theorem State.setRecs_fpr (x : Records) : (s.setRecs x).fpr = s.fpr := rfl
@[simp] theorem State.setRecs_rct (x : Records) : (s.setRecs x).rct = s.rct := rfl
@[simp] theorem State.setRecs_fsq (x : Records) : (s.setRecs x).fsq = s.fsq := rfl
@[simp] theorem State.setRecs_ltu (x : Records) : (s.setRecs x).ltu = s.ltu := rfl
@[simp] theorem State.setRecs_sco (x : Records) : (s.setRecs x).sco = s.sco := rfl
@[simp] theorem State.setRecs_sst (x : Records) : (s.setRecs x).sst = s.sst := rfl
@[simp] theorem State.setRecs_recs (x : Records) : (s.setRecs x).recs = x := rfl
@[simp] theorem State.setRecs_mgt (x : Records) : (s.setRecs x).mgt = s.mgt := rfl
@[simp] theorem State.setRecs_freeCount (x : Records) : (s.setRecs x).freeCount = s.freeCount := rfl

/-! ### `setMgt` -/

@[simp] theorem State.setMgt_pending (x : Mgt) : (s.setMgt x).pending = s.pending := rfl
@[simp] theorem State.setMgt_now (x : Mgt) : (s.setMgt x).now = s.now := rfl
@[simp] theorem State.setMgt_rp (x : Mgt) : (s.setMgt x).rp = s.rp := rfl
@[simp] theorem State.setMgt_msu (x : Mgt) : (s.setMgt x).msu = s.msu := rfl
@[simp] theorem State.setMgt_fpr (x : Mgt) : (s.setMgt x).fpr = s.fpr := rfl
@[simp] theorem State.setMgt_rct (x : Mgt) : (s.setMgt x).rct = s.rct := rfl
@[simp] theorem State.setMgt_fsq (x : Mgt) : (s.setMgt x).fsq = s.fsq := rfl
@[simp] theorem State.setMgt_ltu (x : Mgt) : (s.setMgt x).ltu = s.ltu := rfl
@[simp] theorem State.setMgt_sco (x : Mgt) : (s.setMgt x).sco = s.sco := rfl
@[simp] theorem State.setMgt_sst (x : Mgt) : (s.setMgt x).sst = s.sst := rfl
@[simp] theorem State.setMgt_recs (x : Mgt) : (s.setMgt x).recs = s.recs := rfl
@[simp] theorem State.setMgt_mgt (x : Mgt) : (s.setMgt x).mgt = x := rfl
@[simp] theorem State.setMgt_freeCount (x : Mgt) : (s.setMgt x).freeCount = s.freeCount := rfl

/-! ### `setProt` -/

@[simp] theorem State.setProt_pending (f : Fin 8) (x : Protection) : (s.setProt f x).pending = s.pending := rfl
@[simp] theorem State.setProt_now (f : Fin 8) (x : Protection) : (s.setProt f x).now = s.now := rfl
@[simp] theorem State.setProt_rp (f : Fin 8) (x : Protection) : (s.setProt f x).rp = s.rp := rfl
@[simp] theorem State.setProt_msu (f : Fin 8) (x : Protection) : (s.setProt f x).msu = s.msu := rfl
@[simp] theorem State.setProt_rct (f : Fin 8) (x : Protection) : (s.setProt f x).rct = s.rct := rfl
@[simp] theorem State.setProt_fsq (f : Fin 8) (x : Protection) : (s.setProt f x).fsq = s.fsq := rfl
@[simp] theorem State.setProt_ltu (f : Fin 8) (x : Protection) : (s.setProt f x).ltu = s.ltu := rfl
@[simp] theorem State.setProt_sco (f : Fin 8) (x : Protection) : (s.setProt f x).sco = s.sco := rfl
@[simp] theorem State.setProt_sst (f : Fin 8) (x : Protection) : (s.setProt f x).sst = s.sst := rfl
@[simp] theorem State.setProt_recs (f : Fin 8) (x : Protection) : (s.setProt f x).recs = s.recs := rfl
@[simp] theorem State.setProt_mgt (f : Fin 8) (x : Protection) : (s.setProt f x).mgt = s.mgt := rfl
@[simp] theorem State.setProt_freeCount (f : Fin 8) (x : Protection) : (s.setProt f x).freeCount = s.freeCount := rfl
@[simp] theorem State.setProt_prot (f : Fin 8) (x : Protection) : (s.setProt f x).prot f = x := by
  simp [State.setProt, State.prot]
theorem State.setProt_prot_ne {f q : Fin 8} (h : q ≠ f) (x : Protection) : (s.setProt f x).prot q = s.prot q := by
  simp only [State.setProt, State.prot]; exact bank_set_ne _ h x

/-! ### `setPoint` -/

@[simp] theorem State.setPoint_pending (p : Fin 32) (x : Point) : (s.setPoint p x).pending = s.pending := rfl
@[simp] theorem State.setPoint_now (p : Fin 32) (x : Point) : (s.setPoint p x).now = s.now := rfl
@[simp] theorem State.setPoint_rp (p : Fin 32) (x : Point) : (s.setPoint p x).rp = s.rp := rfl
@[simp] theorem State.setPoint_fpr (p : Fin 32) (x : Point) : (s.setPoint p x).fpr = s.fpr := rfl
@[simp] theorem State.setPoint_rct (p : Fin 32) (x : Point) : (s.setPoint p x).rct = s.rct := rfl
@[simp] theorem State.setPoint_fsq (p : Fin 32) (x : Point) : (s.setPoint p x).fsq = s.fsq := rfl
@[simp] theorem State.setPoint_ltu (p : Fin 32) (x : Point) : (s.setPoint p x).ltu = s.ltu := rfl
@[simp] theorem State.setPoint_sco (p : Fin 32) (x : Point) : (s.setPoint p x).sco = s.sco := rfl
@[simp] theorem State.setPoint_sst (p : Fin 32) (x : Point) : (s.setPoint p x).sst = s.sst := rfl
@[simp] theorem State.setPoint_recs (p : Fin 32) (x : Point) : (s.setPoint p x).recs = s.recs := rfl
@[simp] theorem State.setPoint_mgt (p : Fin 32) (x : Point) : (s.setPoint p x).mgt = s.mgt := rfl
@[simp] theorem State.setPoint_freeCount (p : Fin 32) (x : Point) : (s.setPoint p x).freeCount = s.freeCount := rfl
@[simp] theorem State.setPoint_msu_frames (p : Fin 32) (x : Point) : (s.setPoint p x).msu.frames = s.msu.frames := rfl
@[simp] theorem State.setPoint_msu_presentations (p : Fin 32) (x : Point) : (s.setPoint p x).msu.presentations = s.msu.presentations := rfl
@[simp] theorem State.setPoint_msu_startRunning (p : Fin 32) (x : Point) : (s.setPoint p x).msu.startRunning = s.msu.startRunning := rfl
@[simp] theorem State.setPoint_msu_startSet (p : Fin 32) (x : Point) : (s.setPoint p x).msu.startSet = s.msu.startSet := rfl
@[simp] theorem State.setPoint_point (p : Fin 32) (x : Point) : (s.setPoint p x).point p = x := by
  simp [State.setPoint, State.point]
theorem State.setPoint_point_ne {p q : Fin 32} (h : q ≠ p) (x : Point) : (s.setPoint p x).point q = s.point q := by
  simp only [State.setPoint, State.point]; exact bank_set_ne _ h x

/-! ### `setSlot` -/

@[simp] theorem State.setSlot_pending (k : Fin 9) (x : Slot) : (s.setSlot k x).pending = s.pending := rfl
@[simp] theorem State.setSlot_now (k : Fin 9) (x : Slot) : (s.setSlot k x).now = s.now := rfl
@[simp] theorem State.setSlot_rp (k : Fin 9) (x : Slot) : (s.setSlot k x).rp = s.rp := rfl
@[simp] theorem State.setSlot_msu (k : Fin 9) (x : Slot) : (s.setSlot k x).msu = s.msu := rfl
@[simp] theorem State.setSlot_fpr (k : Fin 9) (x : Slot) : (s.setSlot k x).fpr = s.fpr := rfl
@[simp] theorem State.setSlot_rct (k : Fin 9) (x : Slot) : (s.setSlot k x).rct = s.rct := rfl
@[simp] theorem State.setSlot_ltu (k : Fin 9) (x : Slot) : (s.setSlot k x).ltu = s.ltu := rfl
@[simp] theorem State.setSlot_sco (k : Fin 9) (x : Slot) : (s.setSlot k x).sco = s.sco := rfl
@[simp] theorem State.setSlot_sst (k : Fin 9) (x : Slot) : (s.setSlot k x).sst = s.sst := rfl
@[simp] theorem State.setSlot_recs (k : Fin 9) (x : Slot) : (s.setSlot k x).recs = s.recs := rfl
@[simp] theorem State.setSlot_mgt (k : Fin 9) (x : Slot) : (s.setSlot k x).mgt = s.mgt := rfl
@[simp] theorem State.setSlot_freeCount (k : Fin 9) (x : Slot) : (s.setSlot k x).freeCount = s.freeCount := rfl
@[simp] theorem State.setSlot_fsq_feeders (k : Fin 9) (x : Slot) : (s.setSlot k x).fsq.feeders = s.fsq.feeders := rfl
@[simp] theorem State.setSlot_fsq_groupState (k : Fin 9) (x : Slot) : (s.setSlot k x).fsq.groupState = s.fsq.groupState := rfl
@[simp] theorem State.setSlot_fsq_groupTimer (k : Fin 9) (x : Slot) : (s.setSlot k x).fsq.groupTimer = s.fsq.groupTimer := rfl
@[simp] theorem State.setSlot_fsq_intertrips (k : Fin 9) (x : Slot) : (s.setSlot k x).fsq.intertrips = s.fsq.intertrips := rfl
@[simp] theorem State.setSlot_fsq_noStatusDue (k : Fin 9) (x : Slot) : (s.setSlot k x).fsq.noStatusDue = s.fsq.noStatusDue := rfl
@[simp] theorem State.setSlot_fsq_frames (k : Fin 9) (x : Slot) : (s.setSlot k x).fsq.frames = s.fsq.frames := rfl
@[simp] theorem State.setSlot_slot (k : Fin 9) (x : Slot) : (s.setSlot k x).slot k = x := by
  simp [State.setSlot, State.slot]
theorem State.setSlot_slot_ne {k q : Fin 9} (h : q ≠ k) (x : Slot) : (s.setSlot k x).slot q = s.slot q := by
  simp only [State.setSlot, State.slot]; exact bank_set_ne _ h x

/-! ### `setFeeder` -/

@[simp] theorem State.setFeeder_pending (f : Fin 8) (x : Feeder) : (s.setFeeder f x).pending = s.pending := rfl
@[simp] theorem State.setFeeder_now (f : Fin 8) (x : Feeder) : (s.setFeeder f x).now = s.now := rfl
@[simp] theorem State.setFeeder_rp (f : Fin 8) (x : Feeder) : (s.setFeeder f x).rp = s.rp := rfl
@[simp] theorem State.setFeeder_msu (f : Fin 8) (x : Feeder) : (s.setFeeder f x).msu = s.msu := rfl
@[simp] theorem State.setFeeder_fpr (f : Fin 8) (x : Feeder) : (s.setFeeder f x).fpr = s.fpr := rfl
@[simp] theorem State.setFeeder_rct (f : Fin 8) (x : Feeder) : (s.setFeeder f x).rct = s.rct := rfl
@[simp] theorem State.setFeeder_ltu (f : Fin 8) (x : Feeder) : (s.setFeeder f x).ltu = s.ltu := rfl
@[simp] theorem State.setFeeder_sco (f : Fin 8) (x : Feeder) : (s.setFeeder f x).sco = s.sco := rfl
@[simp] theorem State.setFeeder_sst (f : Fin 8) (x : Feeder) : (s.setFeeder f x).sst = s.sst := rfl
@[simp] theorem State.setFeeder_recs (f : Fin 8) (x : Feeder) : (s.setFeeder f x).recs = s.recs := rfl
@[simp] theorem State.setFeeder_mgt (f : Fin 8) (x : Feeder) : (s.setFeeder f x).mgt = s.mgt := rfl
@[simp] theorem State.setFeeder_freeCount (f : Fin 8) (x : Feeder) : (s.setFeeder f x).freeCount = s.freeCount := rfl
@[simp] theorem State.setFeeder_fsq_slots (f : Fin 8) (x : Feeder) : (s.setFeeder f x).fsq.slots = s.fsq.slots := rfl
@[simp] theorem State.setFeeder_fsq_groupState (f : Fin 8) (x : Feeder) : (s.setFeeder f x).fsq.groupState = s.fsq.groupState := rfl
@[simp] theorem State.setFeeder_fsq_groupTimer (f : Fin 8) (x : Feeder) : (s.setFeeder f x).fsq.groupTimer = s.fsq.groupTimer := rfl
@[simp] theorem State.setFeeder_fsq_intertrips (f : Fin 8) (x : Feeder) : (s.setFeeder f x).fsq.intertrips = s.fsq.intertrips := rfl
@[simp] theorem State.setFeeder_fsq_noStatusDue (f : Fin 8) (x : Feeder) : (s.setFeeder f x).fsq.noStatusDue = s.fsq.noStatusDue := rfl
@[simp] theorem State.setFeeder_fsq_frames (f : Fin 8) (x : Feeder) : (s.setFeeder f x).fsq.frames = s.fsq.frames := rfl
@[simp] theorem State.setFeeder_feeder (f : Fin 8) (x : Feeder) : (s.setFeeder f x).feeder f = x := by
  simp [State.setFeeder, State.feeder]
theorem State.setFeeder_feeder_ne {f q : Fin 8} (h : q ≠ f) (x : Feeder) : (s.setFeeder f x).feeder q = s.feeder q := by
  simp only [State.setFeeder, State.feeder]; exact bank_set_ne _ h x

/-! ### `setSection` -/

@[simp] theorem State.setSection_pending (i : Fin 8) (x : SectionRec) : (s.setSection i x).pending = s.pending := rfl
@[simp] theorem State.setSection_now (i : Fin 8) (x : SectionRec) : (s.setSection i x).now = s.now := rfl
@[simp] theorem State.setSection_rp (i : Fin 8) (x : SectionRec) : (s.setSection i x).rp = s.rp := rfl
@[simp] theorem State.setSection_msu (i : Fin 8) (x : SectionRec) : (s.setSection i x).msu = s.msu := rfl
@[simp] theorem State.setSection_fpr (i : Fin 8) (x : SectionRec) : (s.setSection i x).fpr = s.fpr := rfl
@[simp] theorem State.setSection_rct (i : Fin 8) (x : SectionRec) : (s.setSection i x).rct = s.rct := rfl
@[simp] theorem State.setSection_fsq (i : Fin 8) (x : SectionRec) : (s.setSection i x).fsq = s.fsq := rfl
@[simp] theorem State.setSection_ltu (i : Fin 8) (x : SectionRec) : (s.setSection i x).ltu = s.ltu := rfl
@[simp] theorem State.setSection_sst (i : Fin 8) (x : SectionRec) : (s.setSection i x).sst = s.sst := rfl
@[simp] theorem State.setSection_recs (i : Fin 8) (x : SectionRec) : (s.setSection i x).recs = s.recs := rfl
@[simp] theorem State.setSection_mgt (i : Fin 8) (x : SectionRec) : (s.setSection i x).mgt = s.mgt := rfl
@[simp] theorem State.setSection_freeCount (i : Fin 8) (x : SectionRec) : (s.setSection i x).freeCount = s.freeCount := rfl
@[simp] theorem State.setSection_sco_link1 (i : Fin 8) (x : SectionRec) : (s.setSection i x).sco.link1 = s.sco.link1 := rfl
@[simp] theorem State.setSection_sco_link2 (i : Fin 8) (x : SectionRec) : (s.setSection i x).sco.link2 = s.sco.link2 := rfl
@[simp] theorem State.setSection_section (i : Fin 8) (x : SectionRec) : (s.setSection i x).sco.sections[i] = x := by
  simp [State.setSection]
theorem State.setSection_section_ne {i q : Fin 8} (h : q ≠ i) (x : SectionRec) :
    (s.setSection i x).sco.sections[q] = s.sco.sections[q] := by
  simp only [State.setSection]; exact bank_set_ne _ h x

/-! ### `setLink` -/

@[simp] theorem State.setLink_pending (p : Port) (x : Link) : (s.setLink p x).pending = s.pending := by cases p <;> rfl
@[simp] theorem State.setLink_now (p : Port) (x : Link) : (s.setLink p x).now = s.now := by cases p <;> rfl
@[simp] theorem State.setLink_rp (p : Port) (x : Link) : (s.setLink p x).rp = s.rp := by cases p <;> rfl
@[simp] theorem State.setLink_msu (p : Port) (x : Link) : (s.setLink p x).msu = s.msu := by cases p <;> rfl
@[simp] theorem State.setLink_fpr (p : Port) (x : Link) : (s.setLink p x).fpr = s.fpr := by cases p <;> rfl
@[simp] theorem State.setLink_rct (p : Port) (x : Link) : (s.setLink p x).rct = s.rct := by cases p <;> rfl
@[simp] theorem State.setLink_fsq (p : Port) (x : Link) : (s.setLink p x).fsq = s.fsq := by cases p <;> rfl
@[simp] theorem State.setLink_ltu (p : Port) (x : Link) : (s.setLink p x).ltu = s.ltu := by cases p <;> rfl
@[simp] theorem State.setLink_sst (p : Port) (x : Link) : (s.setLink p x).sst = s.sst := by cases p <;> rfl
@[simp] theorem State.setLink_recs (p : Port) (x : Link) : (s.setLink p x).recs = s.recs := by cases p <;> rfl
@[simp] theorem State.setLink_mgt (p : Port) (x : Link) : (s.setLink p x).mgt = s.mgt := by cases p <;> rfl
@[simp] theorem State.setLink_freeCount (p : Port) (x : Link) : (s.setLink p x).freeCount = s.freeCount := by cases p <;> rfl
@[simp] theorem State.setLink_sco_sections (p : Port) (x : Link) : (s.setLink p x).sco.sections = s.sco.sections := by cases p <;> rfl
@[simp] theorem State.setLink_link (p : Port) (x : Link) : (s.setLink p x).link p = x := by cases p <;> rfl
theorem State.setLink_link_ne {p q : Port} (h : q ≠ p) (x : Link) : (s.setLink p x).link q = s.link q := by
  cases p <;> cases q <;> first | rfl | exact absurd rfl h

/-! ### Elapsed time -/

@[simp] theorem State.reach_pending (t : Nat) : (s.reach t).pending = s.pending := by unfold State.reach; split <;> rfl
@[simp] theorem State.reach_rp (t : Nat) : (s.reach t).rp = s.rp := by unfold State.reach; split <;> rfl
@[simp] theorem State.reach_msu (t : Nat) : (s.reach t).msu = s.msu := by unfold State.reach; split <;> rfl
@[simp] theorem State.reach_fpr (t : Nat) : (s.reach t).fpr = s.fpr := by unfold State.reach; split <;> rfl
@[simp] theorem State.reach_rct (t : Nat) : (s.reach t).rct = s.rct := by unfold State.reach; split <;> rfl
@[simp] theorem State.reach_fsq (t : Nat) : (s.reach t).fsq = s.fsq := by unfold State.reach; split <;> rfl
@[simp] theorem State.reach_ltu (t : Nat) : (s.reach t).ltu = s.ltu := by unfold State.reach; split <;> rfl
@[simp] theorem State.reach_sco (t : Nat) : (s.reach t).sco = s.sco := by unfold State.reach; split <;> rfl
@[simp] theorem State.reach_sst (t : Nat) : (s.reach t).sst = s.sst := by unfold State.reach; split <;> rfl
@[simp] theorem State.reach_recs (t : Nat) : (s.reach t).recs = s.recs := by unfold State.reach; split <;> rfl
@[simp] theorem State.reach_freeCount (t : Nat) : (s.reach t).freeCount = s.freeCount := by unfold State.reach; split <;> rfl
@[simp] theorem State.reach_now (t : Nat) : (s.reach t).now = max s.now t := by
  unfold State.reach; split <;> simp <;> omega
@[simp] theorem State.reach_mgt_timeSet (t : Nat) : (s.reach t).mgt.timeSet = s.mgt.timeSet := by
  unfold State.reach; split <;> rfl
@[simp] theorem State.reach_mgt_requests (t : Nat) : (s.reach t).mgt.requests = s.mgt.requests := by
  unfold State.reach; split <;> rfl
@[simp] theorem State.reach_mgt_malformed (t : Nat) : (s.reach t).mgt.malformed = s.mgt.malformed := by
  unfold State.reach; split <;> rfl
@[simp] theorem State.reach_mgt_reportCount (t : Nat) : (s.reach t).mgt.reportCount = s.mgt.reportCount := by
  unfold State.reach; split <;> rfl
@[simp] theorem State.reach_mgt_reportDue (t : Nat) : (s.reach t).mgt.reportDue = s.mgt.reportDue := by
  unfold State.reach; split <;> rfl
@[simp] theorem State.reach_mgt_warmReset (t : Nat) : (s.reach t).mgt.warmReset = s.mgt.warmReset := by
  unfold State.reach; split <;> rfl
/-- Elapsed time and station time are all that `reach` changes, and no time that has passed changes anything. -/
theorem State.reach_of_le {t : Nat} (h : t ≤ s.now) : s.reach t = s := by
  unfold State.reach; rw [if_neg (by omega)]

end Sys2Proof.Machine
end

