-- ==== Sys2Proof/Laws/Alarms.lean ====
section
/-! SUPPORT. The bitmap of the active alarms, the latches that follow it, and the event log: what each operation on them
does. -/

namespace Sys2Proof.Machine

/-! ### The bitmap of the active alarms -/

/-- No two alarms have one number. -/
theorem alarmNumber_injective : ∀ a ∈ allAlarms, ∀ b ∈ allAlarms, alarmNumber a = alarmNumber b → a = b := by decide

/-- Every alarm is in the list of the alarms. -/
theorem mem_allAlarms (a : Alarm) : a ∈ allAlarms := by cases a <;> decide

/-- Every alarm's number is below 24. -/
theorem alarmNumber_lt (a : Alarm) : alarmNumber a < 24 := by cases a <;> decide

/-- The one bit that an alarm's bitmap sets. -/
theorem alarmBit_getLsbD (a : Alarm) (i : Nat) : (alarmBit a).getLsbD i = decide (alarmNumber a = i) := by
  have h := alarmNumber_lt a
  unfold alarmBit
  rw [BitVec.getLsbD_shiftLeft, BitVec.getLsbD_one]
  by_cases hi : alarmNumber a = i
  · subst hi; simp [h]
  · by_cases h1 : i < alarmNumber a
    · simp [h1, hi]
    · have h2 : ¬ i - alarmNumber a = 0 := by omega
      simp [hi, h2]

/-- A bitmap shares no bit with an alarm's own exactly where that bit of it is clear. -/
theorem and_alarmBit_eq_zero (m : BitVec 24) (a : Alarm) :
    m &&& alarmBit a = 0 ↔ m.getLsbD (alarmNumber a) = false := by
  constructor
  · intro h
    have h1 : (m &&& alarmBit a).getLsbD (alarmNumber a) = false := by rw [h]; simp
    simpa [BitVec.getLsbD_and, alarmBit_getLsbD] using h1
  · intro h
    apply BitVec.eq_of_getLsbD_eq
    intro i _
    by_cases hi : alarmNumber a = i
    · subst hi; simp [BitVec.getLsbD_and, alarmBit_getLsbD, h]
    · simp [BitVec.getLsbD_and, alarmBit_getLsbD, hi]

/-- The bits of a bitmap gathered from a list. -/
theorem foldl_bits {α : Type} (p : α → Bool) (bit : α → BitVec 24) (l : List α) (m : BitVec 24) (i : Nat) :
    (l.foldl (fun m a => if p a then m ||| bit a else m) m).getLsbD i =
      (m.getLsbD i || l.any fun a => p a && (bit a).getLsbD i) := by
  induction l generalizing m with
  | nil => simp
  | cons a l ih =>
    simp only [List.foldl_cons, ih, List.any_cons]
    by_cases h : p a = true
    · simp [h, BitVec.getLsbD_or, Bool.or_assoc]
    · simp [h]

/-- The bitmap of the active alarms has an alarm's bit set exactly while its condition is active. -/
theorem activeMask_bit (s : State) (a : Alarm) : (activeMask s).getLsbD (alarmNumber a) = alarmActive s a := by
  unfold activeMask
  rw [foldl_bits (alarmActive s) alarmBit]
  rw [show (0 : BitVec 24).getLsbD (alarmNumber a) = false by simp, Bool.false_or, Bool.eq_iff_iff, List.any_eq_true]
  simp only [Bool.and_eq_true, alarmBit_getLsbD, decide_eq_true_eq]
  constructor
  · rintro ⟨b, hb, h1, h2⟩
    rwa [← alarmNumber_injective b hb a (mem_allAlarms a) h2]
  · intro h
    exact ⟨a, mem_allAlarms a, h, rfl⟩

/-- Every bit of a bitmap below 24 is an alarm's. -/
theorem alarm_of_bit {i : Nat} (h : i < 24) : ∃ a, alarmNumber a = i := by
  have : ∀ j : Fin 24, ∃ a ∈ allAlarms, alarmNumber a = j.val := by decide
  obtain ⟨a, -, ha⟩ := this ⟨i, h⟩
  exact ⟨a, ha⟩

/-! ### Latches -/

/-- A latch is set exactly where its bit is. -/
theorem latchSet_eq (s : State) (a : Alarm) : latchSet s a = s.recs.latched.getLsbD (alarmNumber a) := by
  unfold latchSet
  rw [Bool.eq_iff_iff, decide_eq_true_eq, ne_eq, and_alarmBit_eq_zero, Bool.not_eq_false]

/-- The latches after an event: those before it, and those of the conditions that rose (R165). -/
theorem latchSet_latchRises (s t : State) (a : Alarm) :
    latchSet (latchRises s t) a = (latchSet t a || (alarmActive t a && !alarmActive s a)) := by
  simp only [latchSet_eq, latchRises, BitVec.getLsbD_or, BitVec.getLsbD_and, BitVec.getLsbD_not, activeMask_bit,
    alarmNumber_lt, decide_true, Bool.true_and]

/-- A pulse sets its own latch. -/
@[simp] theorem latchSet_pulse_self (s : State) (a : Alarm) : latchSet (pulse a s) a = true := by
  simp [latchSet_eq, pulse, BitVec.getLsbD_or, alarmBit_getLsbD]

/-- A pulse leaves every latch that is set. -/
theorem latchSet_pulse_of (s : State) (a b : Alarm) (h : latchSet s b = true) : latchSet (pulse a s) b = true := by
  simp only [latchSet_eq] at h ⊢
  simp [pulse, BitVec.getLsbD_or, h]

/-- The latches are kept by an event that is logged. -/
@[simp] theorem latchSet_logEvent (s : State) (src : Source) (k : EventKind) (d : Detail) (a : Alarm) :
    latchSet (logEvent src k d s) a = latchSet s a := by
  simp only [latchSet_eq, logEvent]

/-- Every active alarm is latched exactly where each alarm's own latch is set while its condition is active. -/
theorem alarmsLatched_iff (s : State) : AlarmsLatched s ↔ ∀ a, alarmActive s a = true → latchSet s a = true := by
  unfold AlarmsLatched
  constructor
  · intro h a ha
    have h1 : (activeMask s &&& ~~~s.recs.latched).getLsbD (alarmNumber a) = false := by rw [h]; simp
    simp only [BitVec.getLsbD_and, BitVec.getLsbD_not, activeMask_bit, ha, alarmNumber_lt, decide_true, Bool.true_and,
      Bool.not_eq_eq_eq_not, Bool.not_false] at h1
    rwa [latchSet_eq]
  · intro h
    apply BitVec.eq_of_getLsbD_eq
    intro i hi
    obtain ⟨a, rfl⟩ := alarm_of_bit hi
    simp only [BitVec.getLsbD_and, BitVec.getLsbD_not, activeMask_bit, alarmNumber_lt, decide_true, Bool.true_and]
    have := h a
    rw [latchSet_eq] at this
    cases ha : alarmActive s a <;> simp_all

/-- An outcome that changes nothing sets no latch. -/
@[simp] theorem latchRises_self (s : State) : latchRises s s = s := by
  have : activeMask s &&& ~~~activeMask s = 0 := by
    apply BitVec.eq_of_getLsbD_eq
    intro i hi
    simp
  simp [latchRises, this]

/-- The latches are all that `latchRises` writes. -/
theorem latchRises_eq (s t : State) :
    latchRises s t = { t with recs := { t.recs with latched := (latchRises s t).recs.latched } } := rfl

@[simp] theorem latchRises_frame (s t : State) :
    (latchRises s t).pending = t.pending ∧ (latchRises s t).now = t.now ∧ (latchRises s t).rp = t.rp ∧
    (latchRises s t).msu = t.msu ∧ (latchRises s t).fpr = t.fpr ∧ (latchRises s t).rct = t.rct ∧
    (latchRises s t).fsq = t.fsq ∧ (latchRises s t).ltu = t.ltu ∧ (latchRises s t).sco = t.sco ∧
    (latchRises s t).sst = t.sst ∧ (latchRises s t).mgt = t.mgt ∧ (latchRises s t).freeCount = t.freeCount ∧
    (latchRises s t).recs.log = t.recs.log ∧ (latchRises s t).recs.latest = t.recs.latest ∧
    (latchRises s t).recs.enabled = t.recs.enabled ∧ (latchRises s t).recs.segments = t.recs.segments ∧
    (latchRises s t).recs.frozen = t.recs.frozen ∧ (latchRises s t).recs.readPtr = t.recs.readPtr ∧
    (latchRises s t).recs.snapshot = t.recs.snapshot := by
  simp [latchRises]

/-! ### The event log -/

/-- A log that holds at most 256 records still does with one more (R163). -/
theorem appendEvent_length (log : List EventRec) (e : EventRec) : (appendEvent log e).length ≤ 256 := by
  simp [appendEvent]; omega

/-- The newest record of the log is the one just logged. -/
theorem appendEvent_getLast (log : List EventRec) (e : EventRec) : (appendEvent log e).getLast? = some e := by
  simp [appendEvent]

/-- An event logged is one event, the next in number and stamped with station time. -/
theorem logEvent_loggedOne (src : Source) (k : EventKind) (d : Detail) (s : State) :
    LoggedOne s (logEvent src k d s) src k d := ⟨rfl, rfl⟩

@[simp] theorem logEvent_frame (src : Source) (k : EventKind) (d : Detail) (s : State) :
    (logEvent src k d s).pending = s.pending ∧ (logEvent src k d s).now = s.now ∧ (logEvent src k d s).rp = s.rp ∧
    (logEvent src k d s).msu = s.msu ∧ (logEvent src k d s).fpr = s.fpr ∧ (logEvent src k d s).rct = s.rct ∧
    (logEvent src k d s).fsq = s.fsq ∧ (logEvent src k d s).ltu = s.ltu ∧ (logEvent src k d s).sco = s.sco ∧
    (logEvent src k d s).sst = s.sst ∧ (logEvent src k d s).mgt = s.mgt ∧
    (logEvent src k d s).freeCount = s.freeCount ∧ (logEvent src k d s).recs.latched = s.recs.latched ∧
    (logEvent src k d s).recs.enabled = s.recs.enabled ∧ (logEvent src k d s).recs.segments = s.recs.segments ∧
    (logEvent src k d s).recs.frozen = s.recs.frozen ∧ (logEvent src k d s).recs.readPtr = s.recs.readPtr ∧
    (logEvent src k d s).recs.snapshot = s.recs.snapshot ∧ (logEvent src k d s).recs.latest = s.recs.latest + 1 := by
  simp [logEvent]

@[simp] theorem pulse_frame (a : Alarm) (s : State) :
    (pulse a s).pending = s.pending ∧ (pulse a s).now = s.now ∧ (pulse a s).rp = s.rp ∧ (pulse a s).msu = s.msu ∧
    (pulse a s).fpr = s.fpr ∧ (pulse a s).rct = s.rct ∧ (pulse a s).fsq = s.fsq ∧ (pulse a s).ltu = s.ltu ∧
    (pulse a s).sco = s.sco ∧ (pulse a s).sst = s.sst ∧ (pulse a s).mgt = s.mgt ∧
    (pulse a s).freeCount = s.freeCount ∧ (pulse a s).recs.log = s.recs.log ∧
    (pulse a s).recs.latest = s.recs.latest ∧ (pulse a s).recs.enabled = s.recs.enabled ∧
    (pulse a s).recs.segments = s.recs.segments ∧ (pulse a s).recs.frozen = s.recs.frozen ∧
    (pulse a s).recs.readPtr = s.recs.readPtr ∧ (pulse a s).recs.snapshot = s.recs.snapshot := by
  simp [pulse]

end Sys2Proof.Machine
end

