-- ==== Sys2Proof/Laws/Frames.lean ====
section
/-! SUPPORT. What the shared operations on feeders, slots and the test circuit leave as it was: one core of State that none
of them changes, and for each operation its frame. -/

namespace Sys2Proof.Machine

/-! ### The ring port's queues -/

/-- What no placing of a frame changes in the ring port. -/
def rpCore (r : RingPort) :=
  (r.own, r.straps, r.windowStart, r.windowBad, r.windowOver, r.lastBad, r.lastOver, r.degraded, r.good, r.bad,
    r.addressErr, r.stripped, r.taken)

@[simp] theorem choose_rpCore (r : RingPort) : rpCore (choose r) = rpCore r := by
  unfold choose
  (repeat' split) <;> rfl

@[simp] theorem startIfIdle_rpCore (r : RingPort) : rpCore (startIfIdle r) = rpCore r := by
  unfold startIfIdle
  split <;> simp

@[simp] theorem placeTrip_rpCore (k : Fin 9) (f : RingFrame) (r : RingPort) : rpCore (placeTrip k f r) = rpCore r := by
  unfold placeTrip
  (repeat' split) <;> first | rfl | (simp only [startIfIdle_rpCore]; rfl)

@[simp] theorem placeCommand_rpCore (f : RingFrame) (r : RingPort) : rpCore (placeCommand f r) = rpCore r := by
  simp [placeCommand]; rfl

@[simp] theorem placeSetpoint_rpCore (u : List Byte) (f : RingFrame) (r : RingPort) :
    rpCore (placeSetpoint u f r) = rpCore r := by
  simp [placeSetpoint]; rfl

@[simp] theorem placeReport_rpCore (f : RingFrame) (r : RingPort) : rpCore (placeReport f r) = rpCore r := by
  simp [placeReport]; rfl

@[simp] theorem placeResponse_rpCore (f : RingFrame) (r : RingPort) : rpCore (placeResponse f r) = rpCore r := by
  unfold placeResponse
  split
  · rfl
  · simp

/-! ### The core that the operations on feeders keep -/

/-- What no operation on a feeder, a slot or the test circuit changes. -/
structure Core where
  pending      : List Instr
  now          : Nat
  msu          : Msu
  rct          : Rect
  sco          : Sco
  mgt          : Mgt
  freeCount    : Nat
  inUse        : Image
  staging      : Option Image
  stored       : Image
  storedValid  : Bool
  reference    : Image
  refDefault   : Bool
  settings     : SettingsState
  key          : KeyPos
  imageWaiting : Bool
  flagsRetry   : Bool
  lastCommit   : Option (Option Reason)
  segments     : Bank Segment 4
  enabled      : BitVec 24
  frozen       : Nat
  readPtr      : Option ReadPtr
  snapshot     : Option Snapshot
  groupState   : GroupState
  groupTimer   : Timer
  intertrips   : List (Fin 8)
  noStatusDue  : Bool
  frames       : List RingFrame
  rp           : Byte × Byte × Nat × Nat × Nat × Nat × Nat × Bool × Nat × Nat × Nat × Nat × Nat

/-- The core of a state. -/
def feederCore (s : State) : Core :=
  { pending := s.pending, now := s.now, msu := s.msu, rct := s.rct, sco := s.sco, mgt := s.mgt, freeCount := s.freeCount,
    inUse := s.sst.inUse, staging := s.sst.staging, stored := s.sst.stored, storedValid := s.sst.storedValid,
    reference := s.sst.reference, refDefault := s.sst.refDefault, settings := s.sst.settings, key := s.sst.key,
    imageWaiting := s.sst.imageWaiting, flagsRetry := s.sst.flagsRetry, lastCommit := s.sst.lastCommit,
    segments := s.recs.segments, enabled := s.recs.enabled, frozen := s.recs.frozen, readPtr := s.recs.readPtr,
    snapshot := s.recs.snapshot, groupState := s.fsq.groupState, groupTimer := s.fsq.groupTimer,
    intertrips := s.fsq.intertrips, noStatusDue := s.fsq.noStatusDue, frames := s.fsq.frames, rp := rpCore s.rp }

/-- What the operations of the rectifier group keep of the rectifier's record. -/
def rectPart (r : Rect) : Rect :=
  { coldRect (defaultImage 0) with
    frames := r.frames, misfires := r.misfires, groupPos := r.groupPos, autoArmed := r.autoArmed, held := r.held,
    autoStart := r.autoStart, dReg := r.dReg, vRef := r.vRef, err := r.err, vBus := r.vBus, iRect := r.iRect }

/-- The core without what an operation of the rectifier group or of the capture segments writes. -/
def groupPart (c : Core) : Core :=
  { c with
    rct := rectPart c.rct
    segments := tabulate fun _ => freeSegment, frozen := 0, groupState := .idle, groupTimer := none }

/-- The core without what a feeder's trip writes besides: the holds of its section. -/
def tripPart (c : Core) : Core := { groupPart c with sco := { c.sco with sections := tabulate fun _ => coldSection } }

/-- The fields that every part of the core holds. -/
theorem of_tripCore {s t : State} (h : tripPart (feederCore t) = tripPart (feederCore s)) :
    t.pending = s.pending ∧ t.now = s.now ∧ t.msu = s.msu ∧ t.sco.link1 = s.sco.link1 ∧ t.sco.link2 = s.sco.link2 ∧
    t.mgt = s.mgt ∧ t.freeCount = s.freeCount ∧ t.sst.inUse = s.sst.inUse ∧ t.sst.staging = s.sst.staging ∧
    t.sst.stored = s.sst.stored ∧ t.sst.storedValid = s.sst.storedValid ∧ t.sst.reference = s.sst.reference ∧
    t.sst.refDefault = s.sst.refDefault ∧ t.sst.settings = s.sst.settings ∧ t.sst.key = s.sst.key ∧
    t.sst.imageWaiting = s.sst.imageWaiting ∧ t.sst.flagsRetry = s.sst.flagsRetry ∧
    t.sst.lastCommit = s.sst.lastCommit ∧ t.recs.enabled = s.recs.enabled ∧ t.recs.readPtr = s.recs.readPtr ∧
    t.recs.snapshot = s.recs.snapshot ∧ t.fsq.intertrips = s.fsq.intertrips ∧
    t.fsq.noStatusDue = s.fsq.noStatusDue ∧ t.fsq.frames = s.fsq.frames ∧ t.rp.own = s.rp.own ∧
    t.rct.frames = s.rct.frames ∧ t.rct.misfires = s.rct.misfires ∧ t.rct.groupPos = s.rct.groupPos ∧
    t.rct.autoArmed = s.rct.autoArmed ∧ t.rct.held = s.rct.held ∧ t.rct.vBus = s.rct.vBus := by
  simp only [tripPart, groupPart, rectPart, feederCore, rpCore, Core.mk.injEq, Rect.mk.injEq, Sco.mk.injEq, Prod.mk.injEq] at h
  simp [h]

/-- The group part holds the sections too. -/
theorem of_groupCore {s t : State} (h : groupPart (feederCore t) = groupPart (feederCore s)) : t.sco = s.sco := by
  simp only [groupPart, feederCore, Core.mk.injEq] at h
  simp [h]

/-- The whole core holds the rectifier, the capture segments and the group breaker's state too. -/
theorem of_feederCore {s t : State} (h : feederCore t = feederCore s) :
    t.rct = s.rct ∧ t.recs.segments = s.recs.segments ∧ t.recs.frozen = s.recs.frozen ∧
    t.fsq.groupState = s.fsq.groupState ∧ t.fsq.groupTimer = s.fsq.groupTimer := by
  simp only [feederCore, Core.mk.injEq] at h
  simp [h]

@[simp] theorem setSlot_core (s : State) (k : Fin 9) (x : Slot) : feederCore (s.setSlot k x) = feederCore s := by simp [feederCore]
@[simp] theorem setFeeder_core (s : State) (f : Fin 8) (x : Feeder) : feederCore (s.setFeeder f x) = feederCore s := by simp [feederCore]
@[simp] theorem setProt_core (s : State) (f : Fin 8) (x : Protection) : feederCore (s.setProt f x) = feederCore s := by simp [feederCore]
@[simp] theorem setLtu_core (s : State) (x : Ltu) : feederCore (s.setLtu x) = feederCore s := by simp [feederCore]
@[simp] theorem logEvent_core (src : Source) (k : EventKind) (d : Detail) (s : State) :
    feederCore (logEvent src k d s) = feederCore s := by simp [feederCore]
@[simp] theorem pulse_core (a : Alarm) (s : State) : feederCore (pulse a s) = feederCore s := by simp [feederCore]
@[simp] theorem latchRises_core (s t : State) : feederCore (latchRises s t) = feederCore t := by simp [feederCore]

/-- The ring port written with its core kept. -/
theorem setRp_core {s : State} {r : RingPort} (h : rpCore r = rpCore s.rp) : feederCore (s.setRp r) = feederCore s := by
  simp [feederCore, h]

/-! ### Each operation's core -/

@[simp] theorem loseCommand_core (k : Fin 9) (c : Command) (s : State) : feederCore (loseCommand k c s) = feederCore s := by
  simp [loseCommand]

@[simp] theorem issueCommand_core (k : Fin 9) (c : BrkCmd) (s : State) :
    feederCore (issueCommand k c s).1 = feederCore s := by
  simp only [issueCommand]
  (repeat' split)
  · rw [setRp_core (by simp)]; simp
  · simp only [loseCommand_core]; rw [setRp_core (by rfl)]; simp
  · rw [setRp_core (by simp)]; simp

@[simp] theorem issueOnly_core (k : Fin 9) (c : BrkCmd) (s : State) : feederCore (issueOnly k c s) = feederCore s := by
  simp [issueOnly]

@[simp] theorem repeatTrip_core (k : Fin 9) (c : Command) (s : State) : feederCore (repeatTrip k c s) = feederCore s := by
  simp only [repeatTrip]
  rw [setRp_core (by simp)]; simp

@[simp] theorem requestFlagsWrite_core (s : State) : feederCore (requestFlagsWrite s) = feederCore s := by
  unfold requestFlagsWrite
  split <;> rfl

@[simp] theorem fprStateChange_core (f : Fin 8) (old new : FeederState) (s : State) :
    feederCore (fprStateChange f old new s) = feederCore s := by
  unfold fprStateChange
  (repeat' split) <;> simp

@[simp] theorem raiseDemand_core (f : Fin 8) (l : List Cause) (c : Option Int) (g : Group) (s : State) :
    feederCore (raiseDemand f l c g s) = feederCore s := by
  unfold raiseDemand
  split <;> simp

@[simp] theorem noteThermal_core (f : Fin 8) (w : Bool) (c : Option Int) (s : State) :
    feederCore (noteThermal f w c s) = feederCore s := by
  unfold noteThermal
  split <;> simp

@[simp] theorem recordGroup_core (f : Fin 8) (s : State) : feederCore (recordGroup f s) = feederCore s := by
  simp only [recordGroup]
  (repeat' split) <;> simp

@[simp] theorem evaluateFeeder_core (f : Fin 8) (pr : Presentation) (s : State) :
    feederCore (evaluateFeeder f pr s) = feederCore s := by
  simp [evaluateFeeder]

@[simp] theorem uvCheck_core (f : Fin 8) (s : State) : feederCore (uvCheck f s) = feederCore s := by
  unfold uvCheck disarmUv
  split <;> simp

@[simp] theorem uvCheckAll_core (s : State) : feederCore (uvCheckAll s) = feederCore s :=
  forEach_keeps feederCore (fun f x => uvCheck_core f x) s

@[simp] theorem uvExpire_core (f : Fin 8) (s : State) : feederCore (uvExpire f s) = feederCore s := by simp [uvExpire]

@[simp] theorem groupChanged_core (f : Fin 8) (s : State) : feederCore (groupChanged f s) = feederCore s := by
  unfold groupChanged uvRecheck
  split <;> simp

@[simp] theorem groupsChanged_core (before s : State) : feederCore (groupsChanged before s) = feederCore s :=
  forEach_keeps feederCore (fun f x => by split <;> simp) s

@[simp] theorem uvPresent_core (f : Fin 8) (v : Int) (s : State) : feederCore (uvPresent f v s) = feederCore s := by
  unfold uvPresent disarmUv
  (repeat' split) <;> simp

@[simp] theorem fprPointStale_core (p : Fin 32) (s : State) : feederCore (fprPointStale p s) = feederCore s :=
  forEach_keeps feederCore (fun f x => by simp only [currentPointStale]; (repeat' split) <;> simp) s

@[simp] theorem moveFeeder_core (f : Fin 8) (new : FeederState) (c : CloseClass) (head : Bool) (s : State) :
    feederCore (moveFeeder f new c head s) = feederCore s := by
  simp [moveFeeder]

@[simp] theorem enterState_core (f : Fin 8) (new : FeederState) (s : State) :
    feederCore (enterState f new s) = feederCore s := by
  simp [enterState]

@[simp] theorem startTimer_core (f : Fin 8) (s : State) : feederCore (startTimer f s) = feederCore s := by
  simp [startTimer]

@[simp] theorem presentRequeue_core (r : TestRecord) (s : State) : feederCore (presentRequeue r s) = feederCore s := by
  unfold presentRequeue
  (repeat' split) <;> simp

@[simp] theorem outOfService_core (k : Fin 8) (fault : CircuitFault) (s : State) :
    feederCore (outOfService k fault s) = feederCore s := by
  simp only [outOfService, logEvent_core]
  rw [forEach_keeps feederCore (fun j x => by (repeat' split) <;> simp)]
  (repeat' split) <;> simp

@[simp] theorem disconnect_core (r : TestRecord) (s : State) : feederCore (disconnect r s) = feederCore s := by
  simp only [disconnect]
  split <;> simp

@[simp] theorem abortTest_core (c : Cause) (s : State) : feederCore (abortTest c s) = feederCore s := by
  simp only [abortTest]
  (repeat' split) <;> simp

@[simp] theorem testDeparture_core (f : Fin 8) (c : Cause) (s : State) :
    feederCore (testDeparture f c s) = feederCore s := by
  simp only [testDeparture]
  (repeat' split) <;> simp

@[simp] theorem deferenceCheck_core (s : State) : feederCore (deferenceCheck s) = feederCore s := by
  unfold deferenceCheck
  split <;> simp

@[simp] theorem ltuRectChange_core (s : State) : feederCore (ltuRectChange s) = feederCore s := by
  unfold ltuRectChange
  split <;> simp

@[simp] theorem ltuPointStale_core (p : Fin 32) (s : State) : feederCore (ltuPointStale p s) = feederCore s := by
  simp only [ltuPointStale]
  (repeat' split) <;> simp

@[simp] theorem strayIssued_core (k : Fin 8) (b : Bool) (s : State) : feederCore (strayIssued k b s) = feederCore s := by
  unfold strayIssued
  split <;> simp

@[simp] theorem strayContactor_core (k : Fin 8) (s : State) : feederCore (strayContactor k s) = feederCore s := by
  simp only [strayContactor]
  (repeat' split) <;> simp

@[simp] theorem completeMeasurement_core (r : TestRecord) (s : State) :
    feederCore (completeMeasurement r s) = feederCore s := by
  simp [completeMeasurement]

@[simp] theorem measure_core (pr : Presentation) (s : State) : feederCore (measure pr s) = feederCore s := by
  simp only [measure]
  (repeat' split) <;> simp

@[simp] theorem setLockout_core (f : Fin 8) (s : State) : feederCore (setLockout f s) = feederCore s := by
  simp [setLockout]

@[simp] theorem clearLockout_core (f : Fin 8) (s : State) : feederCore (clearLockout f s) = feederCore s := by
  unfold clearLockout
  split <;> simp

@[simp] theorem enterLockout_core (f : Fin 8) (s : State) : feederCore (enterLockout f s) = feederCore s := by
  simp only [enterLockout]
  (repeat' split) <;> simp

@[simp] theorem dropBreakerCmd_core (k : Fin 9) (s : State) : feederCore (dropBreakerCmd k s) = feederCore s := by
  simp [dropBreakerCmd]

@[simp] theorem holdBreakerFail_core (f : Fin 8) (s : State) : feederCore (holdBreakerFail f s) = feederCore s := by
  simp [holdBreakerFail]

@[simp] theorem logBreakerFail_core (f : Fin 8) (l : List Code) (s : State) :
    feederCore (logBreakerFail f l s) = feederCore s := by
  simp [logBreakerFail]

@[simp] theorem enterBreakerFail_core (f : Fin 8) (l : List Code) (s : State) :
    feederCore (enterBreakerFail f l s) = feederCore s := by
  simp [enterBreakerFail]

@[simp] theorem openWatchFails_core (k : Fin 9) (s : State) : feederCore (openWatchFails k s) = feederCore s := by
  simp only [openWatchFails]
  (repeat' split) <;> simp

@[simp] theorem enterDeadTime_core (f : Fin 8) (s : State) : feederCore (enterDeadTime f s) = feederCore s := by
  simp [enterDeadTime]

@[simp] theorem failedShot_core (f : Fin 8) (s : State) : feederCore (failedShot f s) = feederCore s := by
  unfold failedShot
  split <;> simp

@[simp] theorem afterFailedClose_core (f : Fin 8) (c : CloseClass) (s : State) :
    feederCore (afterFailedClose f c s) = feederCore s := by
  unfold afterFailedClose
  split <;> simp

@[simp] theorem closeFailed_core (f : Fin 8) (tag : Option Nat) (s : State) :
    feederCore (closeFailed f tag s) = feederCore s := by
  simp only [closeFailed]
  split <;> simp

@[simp] theorem enterClosing_core (f : Fin 8) (c : CloseClass) (s : State) :
    feederCore (enterClosing f c s) = feederCore s := by
  simp only [enterClosing]
  split <;> simp

@[simp] theorem closeDone_core (f : Fin 8) (s : State) : feederCore (closeDone f s) = feederCore s := by
  simp [closeDone]

@[simp] theorem remoteWaitLook_core (f : Fin 8) (s : State) : feederCore (remoteWaitLook f s) = feederCore s := by
  unfold remoteWaitLook
  (repeat' split) <;> simp

@[simp] theorem enterRemoteWait_core (f : Fin 8) (s : State) : feederCore (enterRemoteWait f s) = feederCore s := by
  simp [enterRemoteWait]

@[simp] theorem tripOutcome_core (f : Fin 8) (l : List Cause) (s : State) :
    feederCore (tripOutcome f l s) = feederCore s := by
  simp only [tripOutcome]
  (repeat' split) <;> simp

@[simp] theorem deadTimeLook_core (f : Fin 8) (s : State) : feederCore (deadTimeLook f s) = feederCore s := by
  unfold deadTimeLook
  split <;> simp

@[simp] theorem reenterDeadTime_core (f : Fin 8) (s : State) : feederCore (reenterDeadTime f s) = feederCore s := by
  simp [reenterDeadTime]

@[simp] theorem closeOrHold_core (f : Fin 8) (s : State) : feederCore (closeOrHold f s) = feederCore s := by
  unfold closeOrHold
  (repeat' split) <;> simp

@[simp] theorem liveResult_core (f : Fin 8) (s : State) : feederCore (testResult.liveResult f s) = feederCore s := by
  unfold testResult.liveResult
  split <;> simp

@[simp] theorem testResult_core (f : Fin 8) (m : Measured) (s : State) :
    feederCore (testResult f m s) = feederCore s := by
  unfold testResult
  (repeat' split) <;> simp

@[simp] theorem grant_core (f : Fin 8) (c : CloseClass) (s : State) : feederCore (grant f c s) = feederCore s := by
  simp only [grant]
  (repeat' split) <;> simp

@[simp] theorem arbitrateLoop_core (n : Nat) (s : State) : feederCore (arbitrateLoop n s) = feederCore s := by
  induction n generalizing s with
  | zero => rfl
  | succ n ih =>
    unfold arbitrateLoop
    (repeat' split) <;> simp [ih]

@[simp] theorem arbitrate_core (s : State) : feederCore (arbitrate s) = feederCore s := by simp [arbitrate]

@[simp] theorem testEnds_core (r : TestRecord) (s : State) : feederCore (testEnds r s) = feederCore s := by
  simp only [testEnds]
  split <;> simp

@[simp] theorem resolve_core (f : Fin 8) (p : Position) (s : State) : feederCore (resolve f p s) = feederCore s := by
  simp only [resolve, resolveClosed]
  (repeat' split) <;> simp

@[simp] theorem uncommandedClose_core (f : Fin 8) (s : State) : feederCore (uncommandedClose f s) = feederCore s := by
  simp only [uncommandedClose]
  split <;> simp

@[simp] theorem enterOpening_core (f : Fin 8) (s : State) : feederCore (enterOpening f s) = feederCore s := by
  simp only [enterOpening]
  split <;> simp

@[simp] theorem reclaimExpires_core (f : Fin 8) (s : State) : feederCore (reclaimExpires f s) = feederCore s := by
  simp [reclaimExpires]

@[simp] theorem connected_core (r : TestRecord) (s : State) : feederCore (connected r s) = feederCore s := by
  unfold connected
  (repeat' split) <;> simp

@[simp] theorem testedReport_core (r : TestRecord) (w o : Bool) (s : State) :
    feederCore (testedReport r w o s) = feederCore s := by
  unfold testedReport
  (repeat' split) <;> simp

@[simp] theorem contactorReport_core (k : Fin 8) (w o : Bool) (s : State) :
    feederCore (contactorReport k w o s) = feederCore s := by
  unfold contactorReport otherReport
  (repeat' split) <;> simp

@[simp] theorem noteCoil_core (k : Fin 9) (w : Option StatusReport) (r : StatusReport) (s : State) :
    feederCore (noteCoil k w r s) = feederCore s := by
  simp only [noteCoil]
  (repeat' split) <;> simp

@[simp] theorem breakerFailure_core (k : Fin 9) (f : Fin 8) (c : BrkCmd) (tag : Nat) (s : State) :
    feederCore (breakerFailure k f c tag s) = feederCore s := by
  unfold breakerFailure
  (repeat' split) <;> simp

@[simp] theorem contactorFailure_core (k : Fin 8) (c : BrkCmd) (s : State) :
    feederCore (contactorFailure k c s) = feederCore s := by
  unfold contactorFailure
  (repeat' split) <;> simp

@[simp] theorem remoteLooks_core (before s : State) : feederCore (remoteLooks before s) = feederCore s :=
  forEach_keeps feederCore (fun f x => by split <;> simp) s

@[simp] theorem presentLinks_core (before s : State) : feederCore (presentLinks before s) = feederCore s := by
  simp [presentLinks]

@[simp] theorem deadTimeLooks_core (s : State) : feederCore (deadTimeLooks s) = feederCore s :=
  forEach_keeps feederCore (fun f x => deadTimeLook_core f x) s

@[simp] theorem offAgain_core (s : State) : feederCore (offAgain s) = feederCore s :=
  forEach_keeps feederCore (fun f x => by split <;> simp) s

/-! ### The operations of the rectifier group -/

/-- The rectifier's record written with its own part kept. -/
theorem setRct_group {s : State} {x : Rect} (h : rectPart x = rectPart s.rct) :
    groupPart (feederCore (s.setRct x)) = groupPart (feederCore s) := by
  simp [groupPart, feederCore, h]

/-- The group breaker's state written. -/
theorem setGroup_group {s : State} {x : Fsq} (h : x.intertrips = s.fsq.intertrips ∧ x.noStatusDue = s.fsq.noStatusDue ∧
    x.frames = s.fsq.frames) : groupPart (feederCore (s.setFsq x)) = groupPart (feederCore s) := by
  simp [groupPart, feederCore, h]

/-- The capture segments written. -/
theorem setSegments_group {s : State} {x : Records} (h : x.enabled = s.recs.enabled ∧ x.readPtr = s.recs.readPtr ∧
    x.snapshot = s.recs.snapshot) : groupPart (feederCore (s.setRecs x)) = groupPart (feederCore s) := by
  simp [groupPart, feederCore, h]

@[simp] theorem sendSetpoint_core (d : Byte) (p : List Byte) (s : State) :
    feederCore (sendSetpoint d p s) = feederCore s := by
  unfold sendSetpoint
  rw [setRp_core (by simp)]

@[simp] theorem sendSetpoints_core (s : State) : feederCore (sendSetpoints s) = feederCore s := by simp [sendSetpoints]

@[simp] theorem rectEnter_group (st : RectState) (s : State) :
    groupPart (feederCore (rectEnter st s)) = groupPart (feederCore s) := by
  exact setRct_group rfl

@[simp] theorem rectNotify_core (s : State) : feederCore (rectNotify s) = feederCore s := by
  unfold rectNotify
  split <;> simp

@[simp] theorem noteGateFaults_core (b : Rect) (s : State) : feederCore (noteGateFaults b s) = feederCore s := by
  unfold noteGateFaults noteGateFault
  rw [latchRises_core]
  (repeat' split) <;> simp

@[simp] theorem groupFails_group (s : State) : groupPart (feederCore (groupFails s)) = groupPart (feederCore s) := by
  simp only [groupFails, logEvent_core]
  rw [setGroup_group (by exact ⟨rfl, rfl, rfl⟩)]
  simp

@[simp] theorem groupWatchFails_group (s : State) :
    groupPart (feederCore (groupWatchFails s)) = groupPart (feederCore s) := by
  simp [groupWatchFails]

@[simp] theorem groupCloseFails_group (tag : Option Nat) (s : State) :
    groupPart (feederCore (groupCloseFails tag s)) = groupPart (feederCore s) := by
  simp only [groupCloseFails]
  split <;> simp only [groupWatchFails_group, logEvent_core, pulse_core] <;> rw [setGroup_group (by exact ⟨rfl, rfl, rfl⟩)] <;> simp

@[simp] theorem groupClose_group (s : State) : groupPart (feederCore (groupClose s).1) = groupPart (feederCore s) := by
  simp only [groupClose]
  (repeat' split) <;> simp <;> rw [setGroup_group (by exact ⟨rfl, rfl, rfl⟩)]

@[simp] theorem groupTrip_group (s : State) : groupPart (feederCore (groupTrip s)) = groupPart (feederCore s) := by
  unfold groupTrip
  split
  · rfl
  · rw [issueOnly_core, setGroup_group (by exact ⟨rfl, rfl, rfl⟩)]

@[simp] theorem logRectTrip_core (c : Cause) (s : State) : feederCore (logRectTrip c s) = feederCore s := by
  simp [logRectTrip]

@[simp] theorem freezeSegment_group (i : Fin 4) (s : State) :
    groupPart (feederCore (freezeSegment i s)) = groupPart (feederCore s) := by
  simp only [freezeSegment]
  split
  · rfl
  · rw [setSegments_group (by unfold startNextSegment; split <;> exact ⟨rfl, rfl, rfl⟩), logEvent_core,
      setSegments_group (by exact ⟨rfl, rfl, rfl⟩)]

@[simp] theorem freezeIfDone_group (i : Fin 4) (s : State) :
    groupPart (feederCore (freezeIfDone i s)) = groupPart (feederCore s) := by
  unfold freezeIfDone
  split <;> simp

@[simp] theorem captureTrigger_group (c : Cause) (s : State) :
    groupPart (feederCore (captureTrigger c s)) = groupPart (feederCore s) := by
  simp only [captureTrigger]
  (repeat' split) <;> simp
  rw [setSegments_group (by exact ⟨rfl, rfl, rfl⟩)]

@[simp] theorem rectTrips_group (c : Cause) (s : State) :
    groupPart (feederCore (rectTrips c s)) = groupPart (feederCore s) := by
  simp only [rectTrips]
  (repeat' split) <;> simp only [rectNotify_core, captureTrigger_group, logRectTrip_core, groupTrip_group, sendSetpoints_core]
  all_goals rw [setRct_group (by rfl), rectEnter_group]

@[simp] theorem phaseBack_group (c : Cause) (i : Int) (s : State) :
    groupPart (feederCore (phaseBack c i s)) = groupPart (feederCore s) := by
  simp only [phaseBack]
  split
  · simp only [rectNotify_core, captureTrigger_group, logEvent_core, sendSetpoints_core]
    rw [setRct_group (by rfl), rectEnter_group]
  · rfl

@[simp] theorem enterRestoring_group (s : State) :
    groupPart (feederCore (enterRestoring s)) = groupPart (feederCore s) := by
  simp only [enterRestoring, rectNotify_core]
  rw [setRct_group (by rfl), rectEnter_group]

@[simp] theorem noticeEmptied_group (b s : State) :
    groupPart (feederCore (noticeEmptied b s)) = groupPart (feederCore s) := by
  unfold noticeEmptied openPendingEmptied
  (repeat' split) <;> simp

@[simp] theorem phaseBackExpires_group (s : State) :
    groupPart (feederCore (phaseBackExpires s)) = groupPart (feederCore s) := by
  unfold phaseBackExpires
  split <;> simp

@[simp] theorem overcurrentCheck_group (i : Int) (s : State) :
    groupPart (feederCore (overcurrentCheck i s)) = groupPart (feederCore s) := by
  unfold overcurrentCheck
  split <;> simp

@[simp] theorem beginRamp_group (b : Rect) (s : State) :
    groupPart (feederCore (beginRamp b s)) = groupPart (feederCore s) := by
  simp only [beginRamp, noteGateFaults_core, sendSetpoints_core]
  rw [setRct_group (by rfl), rectEnter_group]

@[simp] theorem rectStops_group (c : Cause) (t : Option Nat) (s : State) :
    groupPart (feederCore (rectStops c t s)) = groupPart (feederCore s) := by
  simp only [rectStops, logRectStop, rectNotify_core, logEvent_core, sendSetpoints_core]
  rw [setRct_group (by rfl), rectEnter_group]

@[simp] theorem rectCloseFailed_group (s : State) :
    groupPart (feederCore (rectCloseFailed s)) = groupPart (feederCore s) := by
  unfold rectCloseFailed
  split <;> simp

@[simp] theorem rectStarts_group (c : Cause) (t : Option Nat) (s : State) :
    groupPart (feederCore (rectStarts c t s)) = groupPart (feederCore s) := by
  simp only [rectStarts]
  (repeat' split) <;> simp only [beginRamp_group, groupClose_group, rectCloseFailed_group, logEvent_core]
  all_goals rw [setRct_group (by rfl), rectEnter_group]

@[simp] theorem recordTrip_core (f : Fin 8) (r : TripRecord) (s : State) : feederCore (recordTrip f r s) = feederCore s := by
  simp [recordTrip]

@[simp] theorem announceTrip_group (f : Fin 8) (r : TripRecord) (s : State) :
    groupPart (feederCore (announceTrip f r s)) = groupPart (feederCore s) := by
  simp [announceTrip]

@[simp] theorem selfTrip_group (f : Fin 8) (s : State) :
    groupPart (feederCore (selfTrip f s)) = groupPart (feederCore s) := by
  simp [selfTrip]

@[simp] theorem tripOpened_group (f : Fin 8) (s : State) :
    groupPart (feederCore (tripOpened f s)) = groupPart (feederCore s) := by
  simp [tripOpened]

@[simp] theorem breakerFails_group (f : Fin 8) (s : State) :
    groupPart (feederCore (breakerFails f s)) = groupPart (feederCore s) := by
  simp [breakerFails]

@[simp] theorem groupFailure_group (c : BrkCmd) (tag : Nat) (s : State) :
    groupPart (feederCore (groupFailure c tag s)) = groupPart (feederCore s) := by
  unfold groupFailure
  (repeat' split) <;> simp

/-- A lost command to a slot without a feeder in service changes the slot's open watch at most. -/
@[simp] theorem unownedFailure_core (k : Fin 9) (c : BrkCmd) (s : State) :
    feederCore (unownedFailure k c s) = feederCore s := by
  unfold unownedFailure
  split <;> simp

@[simp] theorem failureBranch_group (k : Fin 9) (c : BrkCmd) (tag : Nat) (s : State) :
    groupPart (feederCore (failureBranch k c tag s)) = groupPart (feederCore s) := by
  unfold failureBranch
  (repeat' split) <;> simp

@[simp] theorem feederReport_group (f : Fin 8) (w : Option Position) (r : StatusReport) (s : State) :
    groupPart (feederCore (feederReport f w r s)) = groupPart (feederCore s) := by
  simp only [feederReport, closingReport, closedReport, openingReport, closedReported]
  (repeat' split) <;> simp

@[simp] theorem stateExpires_group (f : Fin 8) (s : State) :
    groupPart (feederCore (stateExpires f s)) = groupPart (feederCore s) := by
  unfold stateExpires closeExpires openingExpires deadTimeExpires remoteExpires
  (repeat' split) <;> simp

/-- A part of the core without the sections keeps what the group's part keeps. -/
theorem tripPart_of_group {s t : State} (h : groupPart (feederCore t) = groupPart (feederCore s)) :
    tripPart (feederCore t) = tripPart (feederCore s) := by
  have h2 := of_groupCore h
  unfold tripPart
  rw [h]
  simp [feederCore, h2]

@[simp] theorem tripFeeder_trip (f : Fin 8) (r : TripRecord) (s : State) :
    tripPart (feederCore (tripFeeder f r s)) = tripPart (feederCore s) := by
  have h1 : ∀ x : State, tripPart (feederCore (transferTripOut f r.causes x)) = tripPart (feederCore x) := by
    intro x
    unfold transferTripOut
    (repeat' split) <;> simp [tripPart, groupPart, feederCore, logEvent, State.setSection]
  simp only [tripFeeder, h1]
  exact tripPart_of_group (by simp)

/-! ### The presentations of a STALE point, and a command issued again -/

/-- MSU after a point's freshness timeout: the point STALE, and no value of it left to take (R13, R14). -/
theorem pointStale_msu (p : Fin 32) (s : State) :
    (pointStale p s).msu = { s.msu with
      points := s.msu.points.set p { s.point p with state := .stale, freshness := none }
      presentations := s.msu.presentations.filter fun e => decide (e.point ≠ p) } := by
  simp [pointStale, withdrawPresentations, State.setPoint]

/-- A command issued again keeps everything but the time it counts from, and the other group's command stays (R118). -/
theorem issuedSince_outstanding (t : Nat) (g h : CmdGroup) (x : Slot) :
    outstanding (issuedSince t g x) h =
      if g = h then (outstanding x h).map fun c => { c with sentAt := t } else outstanding x h := by
  cases g <;> cases h <;> rfl

end Sys2Proof.Machine
end

