-- ==== Sys2Proof/Laws/Requests.lean ====
section
/-! SUPPORT. What latching does when nothing the alarms depend on changes, and what serving an admitted request does. -/

namespace Sys2Proof.Machine

/-- Two states with equal fields are equal. -/
theorem state_ext {s t : State} (h1 : s.pending = t.pending) (h2 : s.now = t.now) (h3 : s.rp = t.rp) (h4 : s.msu = t.msu)
  (h5 : s.fpr = t.fpr) (h6 : s.rct = t.rct) (h7 : s.fsq = t.fsq) (h8 : s.ltu = t.ltu) (h9 : s.sco = t.sco) (h10 : s.sst = t.sst)
  (h11 : s.recs = t.recs) (h12 : s.mgt = t.mgt) (h13 : s.freeCount = t.freeCount) : s = t := by
  cases s; cases t; simp_all

/-- An alarm that becomes active is latched (R166). -/
theorem latch_rise {s t : State} {a : Alarm} (h1 : alarmActive s a = false) (h2 : alarmActive t a = true) :
    latchSet (latchRises s t) a = true := by
  rw [latchSet_latchRises]; simp [h1, h2]

/-- A latch that is set stays set. -/
theorem latch_of {s t : State} {a : Alarm} (h2 : latchSet t a = true) :
    latchSet (latchRises s t) a = true := by
  rw [latchSet_latchRises]; simp [h2]

/-- Where no alarm becomes active, nothing is latched and nothing is logged. -/
theorem rises_none {s t : State} (h : ∀ a, alarmActive t a = true → alarmActive s a = true) : latchRises s t = t := by
  have : activeMask t &&& ~~~activeMask s = 0 := by
    apply BitVec.eq_of_getLsbD_eq
    intro i hi
    obtain ⟨a, rfl⟩ := alarm_of_bit hi
    simp only [BitVec.getLsbD_and, BitVec.getLsbD_not, activeMask_bit, alarmNumber_lt, decide_true, Bool.true_and]
    have := h a
    cases ha : alarmActive t a <;> simp_all
  simp [latchRises, this]

/-- What the active alarms depend on. -/
theorem alarm_congr {s t : State} (h1 : t.sst = s.sst) (h2 : t.mgt.timeSet = s.mgt.timeSet) (h3 : t.msu.points = s.msu.points)
    (h4 : t.msu.startSet = s.msu.startSet) (h5 : t.fsq.feeders = s.fsq.feeders) (h6 : t.fsq.slots = s.fsq.slots)
    (h7 : t.fsq.groupState = s.fsq.groupState) (h8 : t.fsq.noStatusDue = s.fsq.noStatusDue) (h9 : t.fpr = s.fpr)
    (h10 : t.rct = s.rct) (h11 : t.ltu.circuit = s.ltu.circuit) (h12 : t.sco = s.sco) (h13 : t.rp.degraded = s.rp.degraded)
    (h14 : t.recs.segments = s.recs.segments) (a : Alarm) : alarmActive t a = alarmActive s a := by
  cases a <;> simp only [alarmActive, State.img, State.point, State.prot, State.feeder, State.slot, inService,
    slotUnresolved, pilotDown, State.link, *]

/-- A change of nothing that the alarms depend on latches nothing. -/
theorem rises_same {s t : State} (h1 : t.sst = s.sst) (h2 : t.mgt.timeSet = s.mgt.timeSet) (h3 : t.msu.points = s.msu.points)
    (h4 : t.msu.startSet = s.msu.startSet) (h5 : t.fsq.feeders = s.fsq.feeders) (h6 : t.fsq.slots = s.fsq.slots)
    (h7 : t.fsq.groupState = s.fsq.groupState) (h8 : t.fsq.noStatusDue = s.fsq.noStatusDue) (h9 : t.fpr = s.fpr)
    (h10 : t.rct = s.rct) (h11 : t.ltu.circuit = s.ltu.circuit) (h12 : t.sco = s.sco) (h13 : t.rp.degraded = s.rp.degraded)
    (h14 : t.recs.segments = s.recs.segments) : latchRises s t = t :=
  rises_none fun a h => (alarm_congr h1 h2 h3 h4 h5 h6 h7 h8 h9 h10 h11 h12 h13 h14 a) ▸ h

/-- Answering a request makes no alarm active. -/
theorem answered_latch (q src tag args r) (s : State) :
    latchRises s (answered q src tag args r s) = answered q src tag args r s := by
  have : (answered q src tag args r s).rp.degraded = s.rp.degraded := by
    simp only [answered, respond, takeRequest, State.setRp]
    have := placeResponse_rpCore { dst := src, src := s.rp.own, kind := kindResponse, payload := responsePayload tag (codeOf q) r } s.rp
    simp [rpCore] at this; simp [this]
  exact rises_same rfl rfl rfl rfl rfl rfl rfl rfl rfl rfl rfl rfl this rfl

/-- What an admitted request does: its owner acts on the state that has taken it, and the answer goes out (R176). -/
theorem serve_ok {q src tag args owner} {s : State} (h : Admitted q src s) :
    serve q src tag args owner s =
      .next (latchRises s (respond src tag (codeOf q) (owner (takeRequest src tag (codeOf q) args s)).2
        (owner (takeRequest src tag (codeOf q) args s)).1)) := by
  obtain ⟨h1, h2⟩ := h
  simp only [serve, answerRequest, finish]
  have e1 : holdsRight (takeRequest src tag (codeOf q) args s).img src (requestRight q) = true := h1
  have e2 : gateAnswer q (takeRequest src tag (codeOf q) args s) = none := h2
  rw [if_pos e1, e2]

/-- An admitted read-only request only answers. -/
theorem serve_read {q src tag args f} {s : State} (h : Admitted q src s)
    (hf : f (takeRequest src tag (codeOf q) args s) = f s) :
    serve q src tag args (readOnly f) s = .next (answered q src tag args (f s) s) := by
  rw [serve_ok h]; simp only [readOnly, hf]; exact congrArg _ (answered_latch q src tag args (f s) s)

end Sys2Proof.Machine
end

