-- ==== Sys2Proof/WellFormed.lean ====
section
/-! DEFINITION. Which terms are commands that a sender can give: a frame's payload fits its length field, a request comes
from a node address with arguments that fit its frame, and a request that is said to be bad is of a bad form. -/

namespace Sys2Proof

open Machine

/-- A node address, 1 to 254 (spec 00_scope.md 5.2): RP counts a frame from another source as an address error and hands
it to nobody (R136). -/
def nodeAddress (a : Byte) : Bool := decide (a ≠ 0) && decide (a ≠ 255)

/-- A frame that RP can hand over: from a node, with a payload of at most 250 bytes (R135, 11.1). -/
def handedFrame (f : RingFrame) : Bool := nodeAddress f.src && decide (f.payload.length ≤ 250)

/-- The requester of a command, where a request is what it carries. -/
def requesterOf : Instr → Option Byte
  | .malformedRequest src _ => some src
  | .badRequest src _ _ _ => some src
  | .identify src _ => some src
  | .readStatus src _ _ => some src
  | .timeSet src _ _ => some src
  | .restart src _ => some src
  | .feederClose src _ _ => some src
  | .feederOpen src _ _ => some src
  | .resetLockout src _ _ => some src
  | .resetBf src _ _ => some src
  | .maskSet src _ _ => some src
  | .maskClear src _ _ => some src
  | .workPermitSet src _ _ => some src
  | .workPermitClear src _ _ => some src
  | .readFeeder src _ _ => some src
  | .groupSelect src _ _ _ => some src
  | .rectStart src _ => some src
  | .rectStop src _ => some src
  | .rectReset src _ => some src
  | .testCircuitReset src _ => some src
  | .stageWrite src _ _ _ _ => some src
  | .stageRead src _ _ _ => some src
  | .stageDiscard src _ => some src
  | .readSettings src _ _ _ _ => some src
  | .commit src _ => some src
  | .applyTrial src _ => some src
  | .revertTrial src _ => some src
  | .readEvents src _ _ _ => some src
  | .readAlarms src _ => some src
  | .clearAlarms src _ _ => some src
  | .alarmEnableSet src _ _ => some src
  | .alarmEnableClear src _ _ => some src
  | .captureTrigger src _ => some src
  | .readCapture src _ _ _ _ => some src
  | .readCaptureNext src _ _ => some src
  | .captureRelease src _ _ => some src
  | .snapshot src _ => some src
  | .readSnapshot src _ => some src
  | .coldReset _ _ _ _ | .settingsKey _ | .reception _ | .transmissionEnd | .ringWindowEnd | .sampleFrame _
  | .freshnessTimeout _ | .startTimeout | .feederEvaluation _ | .lineVoltagePresentation _
  | .undervoltageTimerExpiry _ | .lossTimerExpiry _ | .rectifierEvaluation | .heldEvaluation | .busLossTimeout
  | .phaseBackTimeout | .gateStatus _ | .gateSilenceTimeout _ | .syncTimeout _ | .misfireAgeExpiry
  | .breakerStatus _ | .slotFreshnessTimeout _ | .noStatusTimeout | .commandLost _ _ | .tripRepeat _
  | .closeTimeout _ | .openWatchExpiry _ | .breakerFail _ | .openingTimeout _ | .deadTimeEnd _ | .remoteTimeout _
  | .reclaimEnd _ | .groupCloseTimeout | .groupOpenWatchExpiry | .groupTripTimeout | .tripDemandTaken _
  | .intertripDemandTaken _ | .testMeasurementPresentation | .settleEnd | .contactorTimeout
  | .strayContactorTimeout _ | .captureRow | .pilotFrame _ _ | .pilotFrameSend _ | .pilotSilenceTimeout _
  | .graceTimerExpiry _ | .transferTripHoldEnd _ | .commitCompletion _ | .flagsWriteEnd _ | .stationReport => none

/-- The frame of a command that takes one is a frame that RP hands over. -/
def frameFits : Instr → Bool
  | .sampleFrame f => handedFrame f
  | .gateStatus f => handedFrame f
  | .breakerStatus f => handedFrame f
  | _ => true

/-- The arguments of a request of varying length fit the payload beside its tag and code, and a BAD_REQUEST is one. -/
def argumentsFit : Instr → Bool
  | .badRequest _ _ code args => decide (args.length ≤ 248) && badForm code args
  | .stageWrite _ _ _ _ fields => decide (fields.length ≤ 61)
  | _ => true

/-- A command that a sender can give. The meanings are total: a term that fails a check has a meaning all the same. -/
def wellFormed (i : Instr) : Bool :=
  (requesterOf i).all nodeAddress && frameFits i && argumentsFit i

end Sys2Proof
end

