-- ==== Sys2Proof/Tests/Slice0.lean ====
section
/-! SUPPORT. Tests: ill-formed terms that WellFormed refuses, cases worked by hand from the rules, and for each statement
with hypotheses a state and operands that meet them. Expected values are worked by hand from the rule a test names. -/

-- One theorem at a time: a kernel evaluation per theorem, each in a thread of its own, would exhaust the threads.
set_option Elab.async false

namespace Sys2Proof.Tests

open Sys2Proof.Machine

/-! ### WellFormed refuses, check by check -/

theorem test_refuses_requester_0 : wellFormed (.identify 0 1) = false := by decide
theorem test_refuses_requester_255 : wellFormed (.identify 255 1) = false := by decide
theorem test_refuses_frame_from_0 :
    wellFormed (.sampleFrame { dst := 254, src := 0, kind := 1, payload := [] }) = false := by decide
theorem test_refuses_frame_of_251_bytes :
    wellFormed (.gateStatus { dst := 254, src := 9, kind := 5, payload := List.replicate 251 0 }) = false := by
  decide +kernel
theorem test_refuses_bad_request_of_249_arguments :
    wellFormed (.badRequest 1 1 0 (List.replicate 249 0)) = false := by decide +kernel
theorem test_refuses_bad_request_of_good_form : wellFormed (.badRequest 1 1 1 []) = false := by decide +kernel
theorem test_refuses_62_fields : wellFormed (.stageWrite 1 1 0 0 (List.replicate 62 0)) = false := by decide +kernel
theorem test_accepts_identify : wellFormed (.identify 1 1) = true := by decide
theorem test_accepts_frame_of_250_bytes :
    wellFormed (.breakerStatus { dst := 254, src := 254, kind := 3, payload := List.replicate 250 0 }) = true := by
  decide +kernel
theorem test_no_word_spells_a_command : decodeTableWord 8 0 = none ∧ State.reset.withFetchWord 8 0 = State.reset := by
  exact ⟨rfl, rfl⟩

/-! ### Values worked by hand -/

/-- R182: the check of the digits 1 to 9 by this polynomial and start value is 29B1H, its published check value. -/
theorem test_check_of_the_digits :
    crc16 [0x31, 0x32, 0x33, 0x34, 0x35, 0x36, 0x37, 0x38, 0x39] = 0x29B1#16 := by decide +kernel

/-- R5: raw −3 with gain 2048 gives −6144, plus 2048 is −4096, a floor of −1, and offset 5 makes 4. -/
theorem test_scaling_rounds_half_up :
    engineering { defaultInput with gain := 2048, offset := 5 } (-3) = 4 := by decide

/-- R5, R6: raw 32767 with gain 65535 exceeds 32767, is clamped, and saturates. -/
theorem test_scaling_saturates :
    engineering { defaultInput with gain := 65535, offset := 0 } 32767 = 32767 ∧
      saturates { defaultInput with gain := 65535, offset := 0 } 32767 = true := by decide

/-- R9: the gap from 65534 to 1 is 3. -/
theorem test_gap_wraps : gapOf 65534 1 = 3 := by decide

/-- R32: θ 100 and M 0 with τ 10 is 100 + trunc(−100 / 1000), which is 100; rounding toward zero. -/
theorem test_thermal_truncates : thermalUpdate 10 100 0 = 100 ∧ thermalUpdate 10 1000 0 = 999 := by decide

/-- R26: r = 2 meets S = 5 (10 ≥ 10), and r = 2 does not meet S = 6 (10 < 12). -/
theorem test_rate_meets : meets 2 5 = true ∧ meets 2 6 = false := by decide

/-- R54: between 60 and 50 at f = 31 the angle is 60 + ceiling(−310 / 32) = 60 − 9 = 51. -/
theorem test_firing_angle_takes_the_ceiling :
    firingAngle { defaultImage 254 with firing := tabulate fun j => if j.val = 0 then 60 else 50 } 31 = 51 := by
  decide +kernel

/-- R52: 3 A above the limit with K_cl 255 lowers d_cl by ceiling(765 / 256) = 3. -/
theorem test_current_limit_takes_the_ceiling :
    limitDemand { defaultRect 254 with iLim := 100, kCl := 255 } 103 1000 = 997 := by decide

/-- R109: sums of 16 × 100 and 16 × 400 with R_test 3000 give 3000 × 100 / 300 = 1000, which passes R_pass 1000. -/
theorem test_line_resistance :
    lineResistance { defaultTest with rTest := 3000, rPass := 1000 } 1600 6400 =
      { result := .pass, lineAvg := 100, busAvg := 400, resistance := some (1000, false) } := by decide

/-- R81: a trip at 1999 A adds floor(3996001 / 10⁶) = 3 of wear. -/
theorem test_wear : tripWear (some 1999) = 3 := by decide

/-- R145: strap values 0 and 255 give the own address 254. -/
theorem test_own_address : ownAddress 0 = 254 ∧ ownAddress 255 = 254 ∧ ownAddress 7 = 7 := by decide

/-- R160: the default image passes its own entry checks, and its content checks under address 254. -/
theorem test_default_image_is_good :
    entriesPass (defaultImage 254) = true ∧ contentChecks 254 (defaultImage 254) = none := by decide +kernel

/-- 11.1: RESTART by frame: destination 254, source 1, kind 6, length 2, tag 9 and code 4 are a good frame with check. -/
theorem test_good_frame :
    goodFrame (withCheck [254, 1, 6, 2, 9, 4]) = some { dst := 254, src := 1, kind := 6, payload := [9, 4] } := by
  decide +kernel

/-! ### A small station: feeder 0 on slot 0, its section on pilot port 1, the rectifier on slot 8 -/

/-- One input of head 10. -/
def input (channel : Nat) (kind : PointKind) : InputEntry :=
  { inUse := true, head := 10, channel := channel, kind := kind, gain := 4096, offset := 0 }

/-- The image: points 0 to 3 by kind, feeder 0 with 2 shots, its breaker at 16 with a test contactor, the group breaker at
24, one section, and a manager at 100 with every right. -/
def image : Image :=
  let m := defaultImage 254
  { m with
    inputs := (((m.inputs.set 0 (input 0 .feederCurrent)).set 1 (input 1 .lineVoltage)).set 2 (input 2 .busVoltage)).set 3
      (input 3 .rectCurrent)
    feeders := m.feeders.set 0
      { defaultFeeder with
        inService := true, currentPoint := 0, linePoint := 1, slot := 0, shots := 2, tripOnLoss := true,
        tripOnOverflow := true }
    groups := m.groups.set 1 { defaultGroup with iRev := 100, uMin := 100 }
    breakers := (m.breakers.set 0 { defaultBreaker with address := 16, hasContactor := true }).set 8
      { defaultBreaker with address := 24 }
    rect := { m.rect with busPoint := 2, currPoint := 3, dMin := 10, dPb := 5, gateA := 30, gateB := 31 }
    sections := m.sections.set 0 { inUse := true, feeder := 0, port := .one, sectionId := 5 }
    managers := m.managers.set 2 { address := 100, read := true, operate := true, configure := true } }

/-- A FRESH point with one value throughout. -/
def fresh (v : Int) : Point :=
  { state := .fresh, history := List.replicate 16 v, seq := some 7, warm := 16, saturating := false, overflow := false,
    freshness := some 0, freshSince := true }

/-- The station with its points FRESH, the key unlocked, and the first flags write over. -/
def demo : State :=
  let s := State.reset
  { s with
    msu := { s.msu with
      points := (((s.msu.points.set 0 (fresh 0)).set 1 (fresh 0)).set 2 (fresh 600)).set 3 (fresh 0) }
    fsq := { s.fsq with
      feeders := s.fsq.feeders.set 0 { coldFeeder image.feeders[(0 : Fin 8)] false false with state := .opened, mask := false } }
    sst := { s.sst with
      inUse := image, key := .unlocked, arbiter := .idle, writeStart := none, flagsValid := true } }

/-- The station with feeder 0 in a state since 0. -/
def inState (st : FeederState) : State :=
  demo.setFeeder 0 { demo.feeder 0 with state := st, stateTimer := some 0 }

/-- The station with a rectifier state and slot 8's position known to RCT. -/
def rectIn (st : RectState) (pos : Position) : State :=
  demo.setRct { demo.rct with state := st, groupPos := some pos }

/-- A value of a point presented to a block. -/
def present (t : Target) (p : Fin 32) (v : Int) (s : State) : State :=
  s.setMsu { s.msu with
    presentations :=
      [{ target := t, point := p, value := v, state := .fresh, advance := 1, resync := false, saturating := true,
         history := (v :: (s.point p).history).take 16, frame := [] }] }

/-- A status of slot k. -/
def reported (pos : Position) : StatusReport :=
  { position := pos, selfTrip := false, contactorOn := false, echoed := 0, coilHealthy := true }

/-- The station with a slot reporting a position. -/
def reporting (k : Fin 9) (pos : Position) (s : State) : State :=
  s.setSlot k { s.slot k with report := some (reported pos) }

/-- A BREAKER_STATUS frame of slot 0's unit. -/
def status (pos : Byte) : RingFrame := { dst := 254, src := 16, kind := 3, payload := [pos, 4, 0] }

/-- A SAMPLE frame of head 10 with one channel. -/
def sample (seq : Byte) : RingFrame := { dst := 254, src := 10, kind := 1, payload := [0, seq, 1, 1, 0, 3] }

/-- The pilot link of port 1 UP with station 2. -/
def linked (remote : EndState) (s : State) : State :=
  s.setSco { s.sco with
    link1 := { s.sco.link1 with up := true, remoteId := some 2, lastSeq := some 8 }
    sections := s.sco.sections.set 0 { s.sco.sections[(0 : Fin 8)] with remote := remote } }

/-- A test record of feeder 0 in its stage since 0. -/
def record (count : Nat) : TestRecord :=
  { feeder := some 0, cls := .operator, slot := 0, stage := some 0, lineSum := 0, busSum := 0, count := count,
    bus := some 600, outcome := .none }

/-- The station with the test circuit in a state. -/
def circuitIn (c : CircuitState) (count : Nat) : State :=
  demo.setLtu { demo.ltu with circuit := c, record := some (record count) }

/-! ### The worked cases of the spec -/

/-- Chapter 1, worked scaling cases: the six rows, value and saturated. -/
theorem worked_scaling :
    [(12000, 6144, -20), (30000, 8192, 0), (1, 2048, 0), (-1, 2048, 0), (-3, 2048, 0), (-200, 4096, -32700)].map
      (fun x : Int × Nat × Int =>
        let e : InputEntry := { defaultInput with gain := x.2.1, offset := x.2.2 }
        (engineering e x.1, saturates e x.1)) =
    [(17980, false), (32767, true), (1, false), (0, false), (-1, false), (-32768, true)] := by decide

/-- The point of the worked sequence of chapter 1, with its updates from seq 1001 to 1024; an absent channel is no
update, and the expiry comes before 1020. -/
def gapPoint (steps : List (BitVec 16 × Int)) (pt : Point) : Point :=
  steps.foldl (fun x e => updatedPoint (classify x e.1) e.1 e.2 false 0 x) pt

/-- Chapter 1, worked sequence: the history's slots 0 to 3, the warm-up count and the state, at 1006, 1020 and 1024. -/
theorem worked_gaps :
    let a := gapPoint [(1001, 600), (1004, 630), (1004, 631), (1006, 640)] { fresh 600 with seq := some 1000 }
    let b := gapPoint [(1020, 650)] { a with state := .stale, freshness := none }
    let c := gapPoint [(1021, 655), (1024, 670)] b
    (a.history.take 4 = [640, 630, 630, 600] ∧ a.seq = some 1006 ∧ a.warm = 16 ∧ a.state = .fresh) ∧
    (b.history.take 4 = [650, 650, 650, 650] ∧ b.seq = some 1020 ∧ b.warm = 0 ∧ b.state = .warming) ∧
    (c.history.take 4 = [670, 655, 655, 655] ∧ c.warm = 4) ∧
    classify { a with state := .stale } 1020 = .resync (some 14) := by decide +kernel

/-- The group of the three rises of chapter 2. -/
def riseGroup : GroupEntry :=
  { defaultGroup with
    iMax := 4000, sStart := 40, sEnd := 20, sTrip := 150, nRate := 20, dISet := 1800, nDly := 30, nWindow := 400,
    nEnd := 8 }

/-- The rise record and the causes after the positions 1 to k of a current that stands at its value of position 0
before them. -/
def riseRun (current : Nat → Int) (k : Nat) : Rise × List Cause :=
  (List.range k).foldl (fun x i => riseStep riseGroup (current (i + 1)) (current (i + 1 - 4)) 1 x.1) (.quiet, [])

/-- Chapter 2, near fault: positions 1, 4 and 22. -/
theorem worked_near_fault :
    riseRun (fun k => 600 + 20 * k) 1 = (.rising 600 4 0 0, []) ∧
    riseRun (fun k => 600 + 20 * k) 4 = (.rising 600 7 2 0, []) ∧
    riseRun (fun k => 600 + 20 * k) 22 = (.quiet, [.didt]) := by decide +kernel

/-- Chapter 2, far fault: positions 3, 359 and 360. -/
theorem worked_far_fault :
    riseRun (fun k => 600 + 5 * k) 3 = (.quiet, []) ∧
    riseRun (fun k => 600 + 5 * k) 359 = (.rising 600 359 0 0, []) ∧
    riseRun (fun k => 600 + 5 * k) 360 = (.quiet, [.deltaI]) := by decide +kernel

/-- Chapter 2, tram start: positions 2, 34 and 41. -/
theorem worked_tram_start :
    riseRun (fun k => 600 + 10 * (min k 30 : Nat)) 2 = (.rising 600 4 0 0, []) ∧
    riseRun (fun k => 600 + 10 * (min k 30 : Nat)) 34 = (.rising 600 36 0 1, []) ∧
    riseRun (fun k => 600 + 10 * (min k 30 : Nat)) 41 = (.quiet, []) := by decide +kernel

/-- Chapter 2, heating at 3000 A: the four blocks. -/
theorem worked_heating :
    [0, 150, 299, 448].map (fun x => thermalUpdate 600 x 9000000) = [150, 299, 448, 597] := by decide

/-- The rectifier table of the worked cases of chapter 3. -/
def rectTable : RectEntry :=
  { defaultRect 254 with
    vSet := 810, rDroop := 20, vDi0 := 900, kP := 512, kI := 6554, dMin := 200, dMax := 1000, iLim := 6000, kCl := 64,
    rampCl := 8 }

/-- Chapter 3, one evaluation in REGULATING: V_ref, e, d_raw, d_reg, and x_i after. -/
theorem worked_evaluation :
    let g := regulate rectTable 196608 760 2000
    g = { vRef := 770, err := 10, dRaw := 899, dReg := 899 } ∧ integrate rectTable .regulating g 196608 = 262148 := by
  decide

/-- Chapter 3, the current limit: evaluations 1 to 5, and a current of 32767 A. -/
theorem worked_current_limit :
    limitDemand rectTable 5800 1000 = 1000 ∧ limitDemand rectTable 6800 1000 = 800 ∧
    limitDemand rectTable 6450 800 = 687 ∧ limitDemand rectTable 6001 687 = 686 ∧ limitDemand rectTable 5990 686 = 694 ∧
    limitDemand rectTable 32767 1000 = 200 := by decide

/-- The angles of the worked interpolations. -/
def angles : Image :=
  { defaultImage 254 with
    firing := tabulate fun j =>
      if j.val = 3 then 850 else if j.val = 4 then 830 else if j.val = 28 then 270 else if j.val = 29 then 240
      else if j.val = 30 then 205 else if j.val = 31 then 145 else if j.val = 32 then 60 else 500 }

/-- Chapter 3, worked interpolations: the eight rows. -/
theorem worked_interpolations :
    [100, 896, 899, 927, 928, 996, 1000, 1024].map (firingAngle angles) =
      [848, 270, 268, 241, 240, 135, 124, 60] := by decide +kernel

/-- Chapter 3, misfires on the two bridges: the history from 40 ms on, and its sum at 135 ms. -/
theorem worked_misfires :
    misfireSum (appendMisfire 120000 1 [(40000, 1)]) = 2 ∧
    misfireSum (appendMisfire 135000 1 (appendMisfire 120000 1 [(40000, 1)])) = 3 := by decide

/-- Chapter 5, one measurement: presentations 1, 2, 3 to 12, 13 and 14, and the two averages. -/
theorem worked_measurement :
    let r0 : TestRecord :=
      { feeder := some 0, cls := .operator, slot := 0, stage := none, lineSum := 0, busSum := 0, count := 0, bus := none,
        outcome := .none }
    let r1 := addPositions 800 [15] (addPositions 801 [14] r0)
    let r2 := addPositions 800 (List.replicate 10 15) r1
    let r3 := addPositions 800 [16] (addPositions 799 (positionsOf [17, 15, 15, 15] 3 17) r2)
    (r2.count = 12 ∧ r2.lineSum = 179 ∧ r2.busSum = 9601) ∧ (r3.count = 16 ∧ r3.lineSum = 242 ∧ r3.busSum = 12798) ∧
    (lineResistance { defaultTest with rTest := 20000, rPass := 2000 } 242 12798).resistance = some (382, false) := by
  decide

/-- Chapter 5, the computation at its limits: the seven rows, from sums of 16 equal values. -/
theorem worked_resistance :
    [120, 15, 0, -4, 799, 800, 805].map (fun line : Int =>
      let m := lineResistance { defaultTest with rTest := 20000, rPass := 2000 } (16 * line) (16 * 800)
      (m.resistance, m.result)) =
    [(some (3529, false), .pass), (some (382, false), .fail), (some (0, false), .fail), (some (0, false), .fail),
     (some (1000000, true), .pass), (none, .noCurrent), (none, .noCurrent)] := by decide

/-- Chapter 7, a trip during busy traffic: what the output sends at each end of transmission, where frame n carries n:
T3 3, F1 11, F2 12, F3 13, S_A 21, S_B 22, C4 24, M1 31. -/
theorem worked_busy_traffic :
    let fr (n : Byte) (kind : Byte) : RingFrame := { dst := 9, src := n, kind := kind, payload := [] }
    let r0 : RingPort :=
      { coldRp 254 with
        sending := some (fr 0 8), turn := .control, trip := [(3, fr 3 2)], forward := [fr 11 1, fr 12 1],
        control := [fr 21 4, fr 22 4, fr 24 2], report := [fr 31 7] }
    let r2 := choose (choose r0)
    let r3 := choose { r2 with forward := r2.forward ++ [fr 13 1] }
    let r4 := choose (placeTrip 3 (fr 3 2) r3)
    (r2.sending = some (fr 21 4) ∧ r2.turn = .forward) ∧ r3.sending = some (fr 11 1) ∧
    (r4.sending = some (fr 3 2) ∧ (choose r4).sending = some (fr 22 4) ∧ (choose (choose r4)).sending = some (fr 12 1)) := by
  decide +kernel

/-- Chapter 7, a noisy link: the tenth bad frame makes RING_DEGRADED active, and a window of 9 ends it. -/
theorem worked_noisy_link :
    let s := State.reset.setRp { State.reset.rp with windowBad := 9 }
    (badFrame s).rp.degraded = true ∧ (badFrame s).rp.windowBad = 10 ∧ (badFrame s).recs.latest = s.recs.latest + 1 := by
  decide +kernel

/-- Chapter 9, four records: a full segment freezes with 1024 rows and trigger row 255, and one of 900 rows with 131. -/
theorem worked_records :
    let row : Row := { advance := 1, resync := false, channels := [] }
    let h : Header := { triggerHeader State.reset 0 .protectionTrip with hasTrigger := true }
    let g (n : Nat) : Segment := { state := .post, rows := List.replicate n row, header := some h, postCount := 768 }
    (frozenHeader (g 1024) 1 h).triggerRow = some 255 ∧ (frozenHeader (g 900) 3 h).triggerRow = some 131 := by
  decide +kernel

/-! ### A state and operands that meet the hypotheses of each statement

One theorem for each statement that has hypotheses, a conjunct for each of its clauses, at a boundary value. -/

/-- A queue of two commands, and an empty one. -/
theorem witness_step :
    ({ demo with pending := [.startTimeout, .stationReport] } : State).pending = .startTimeout :: [.stationReport] ∧
      demo.pending = [] := by exact ⟨rfl, rfl⟩

/-- A store with a loadable image, and one without. -/
theorem witness_cold_reset :
    ({ demo.sst with stored := image, storedValid := true }.storedValid && true && entriesPass image &&
      (contentChecks (ownAddress 254) image).isNone) = true ∧
    ((demo.sst.flagsValid && true) = true ∧ (demo.sst.flagsValid && false) = false) ∧
    (State.reset.sst.storedValid = false ∧ State.reset.sst.flagsValid = false) := by decide +kernel

/-- A level the key has, and the other. -/
theorem witness_settings_key : demo.sst.key = .unlocked ∧ demo.sst.key ≠ .locked := by decide +kernel

/-- A payload of 250 bytes, and bytes that are a good frame. -/
theorem witness_ring_frame :
    (List.replicate 250 (0 : Byte)).length ≤ 250 ∧ (goodFrame (frameBytes (sample 1))).isSome = true := by
  decide +kernel

/-- A frame for the part from the highest source below it. -/
theorem witness_reception :
    let f : RingFrame := { dst := 254, src := 253, kind := 5, payload := List.replicate 250 0 }
    f.payload.length ≤ 250 ∧ f.dst = demo.rp.own ∧ f.dst ≠ 0 ∧ f.src ≠ 0 ∧ f.src ≠ 255 ∧ f.src ≠ demo.rp.own := by
  decide +kernel

/-- A frame for another node with room for one more, with no room, a frame of the part's own, and an invalid address. -/
theorem witness_forwarding :
    let f : RingFrame := { dst := 253, src := 10, kind := 1, payload := [] }
    f.dst ≠ 0 ∧ f.src ≠ 0 ∧ f.src ≠ 255 ∧ f.src ≠ demo.rp.own ∧ f.dst ≠ demo.rp.own ∧
    (List.replicate 3 f).length < 4 ∧ 4 ≤ (List.replicate 4 f).length ∧
    { f with src := 254 }.src = demo.rp.own ∧ { f with src := 255 }.src = 255 := by decide +kernel

/-- An output that sends, with each choice of its queues. -/
theorem witness_transmission_end :
    let g := sample 1
    let r : RingPort := { demo.rp with sending := some g }
    r.sending = some g ∧ ({ r with trip := [(0, g)] } : RingPort).trip = (0, g) :: [] ∧
    (r.trip = [] ∧ ({ r with forward := [g] } : RingPort).forward = g :: [] ∧ (r.turn = .forward ∨ r.control = [])) ∧
    (({ r with control := [g] } : RingPort).control = g :: [] ∧ (r.turn = .control ∨ r.forward = [])) ∧
    (({ r with report := [g] } : RingPort).report = g :: [] ∧ r.report = []) := by decide +kernel

/-- Bytes that are no good frame at the ninth and tenth bad frame of a window, and ends of windows on either side. -/
theorem witness_bad_frames :
    goodFrame [254, 1, 6, 0, 0, 0] = none ∧ demo.rp.degraded = false ∧ demo.rp.windowBad < 9 ∧
    (9 ≤ ({ demo.rp with windowBad := 9 } : RingPort).windowBad ∧
      ({ demo.rp with windowBad := 9 } : RingPort).degraded = false) ∧
    ({ demo.rp with windowBad := 9, degraded := true } : RingPort).windowBad < 10 ∧
    10 ≤ ({ demo.rp with windowBad := 10 } : RingPort).windowBad := by decide +kernel

/-- A well-formed frame that updates point 0 alone, and a frame of no channel. -/
theorem witness_sample_frame :
    sampleWellFormed (sample 8) = true ∧ presentPoints demo (sample 8) = [(0, 3)] ∧ demo.ltu.queue = [] ∧
    sampleWellFormed { sample 8 with payload := [0, 1, 0, 0] } = false := by decide +kernel

/-- Updates of a STALE point, of a point without value, and of gaps 0, 1, 5 and 6. -/
theorem witness_update :
    sampleWellFormed (sample 8) = true ∧ (0, 3) ∈ presentPoints demo (sample 8) ∧
    (({ fresh 0 with state := .stale } : Point).state = .stale) ∧ (State.reset.point 0).seq = none ∧
    ((demo.point 0).seq = some 7 ∧ (demo.point 0).state = .fresh) ∧
    (sampleSequence (sample 7).payload - 7).toNat = 0 ∧ (sampleSequence (sample 8).payload - 7).toNat = 1 ∧
    (sampleSequence (sample 12).payload - 7).toNat = 5 ∧ 6 ≤ (sampleSequence (sample 13).payload - 7).toNat := by
  decide +kernel

/-- A running freshness timer, of a feeder's current point and of the bus voltage point, in CLOSED. -/
theorem witness_freshness :
    ((inState .closed).point 0).freshness = some 0 ∧ image.inputs[(0 : Fin 32)].inUse = true ∧
    (inState .closed).ltu.queue = [] ∧ (inState .closed).ltu.circuit = .idle ∧
    (inService (inState .closed) 0 = true ∧ image.feeders[(0 : Fin 8)].currentPoint = 0 ∧
      ((inState .closed).feeder 0).state = .closed) ∧
    (image.rect.busPoint ≠ 0 ∧ image.rect.busPoint = 2 ∧ (demo.point 2).freshness = some 0) := by decide +kernel

/-- R14: a value of point 0 that waits at the point's freshness timeout is withdrawn. -/
theorem test_stale_value_is_withdrawn :
    (present (.current 0) 0 100 demo).msu.presentations ≠ [] ∧
    (pointStale 0 (present (.current 0) 0 100 demo)).msu.presentations = [] := by decide +kernel

/-- R78: a circuit taken out of service in DISCONNECTING sends nothing to a tested slot whose feeder is DISABLED. -/
theorem test_disabled_slot_is_sent_nothing :
    let s := circuitIn .disconnecting 0
    let m : Image := { image with feeders := image.feeders.set 0 { image.feeders[(0 : Fin 8)] with inService := false } }
    ((outOfService 0 .noOff s).slot 0).contactorCmd.isSome = true ∧
    ((outOfService 0 .noOff (s.setSst { s.sst with inUse := m })).slot 0).contactorCmd = none := by decide +kernel

/-- The station with slot 1 fitted and tested, and its feeder 0 since moved by a switch to slot 2: no feeder names slot 1. -/
def testedUnnamed : State :=
  let s := demo.setLtu { demo.ltu with circuit := .disconnecting, record := some { record 0 with slot := 1 } }
  s.setSst { s.sst with inUse := { image with
    feeders := image.feeders.set 0 { image.feeders[(0 : Fin 8)] with slot := 2 }
    breakers := (image.breakers.set 1 { defaultBreaker with address := 17, hasContactor := true }).set 2
      { defaultBreaker with address := 18, hasContactor := true } } }

/-- R115: a circuit taken out of service sends TEST_OFF to a tested slot that no feeder names. -/
theorem test_unnamed_slot_is_sent_test_off :
    feederOfSlot testedUnnamed.img 1 = none ∧
    (((outOfService 1 .noOff testedUnnamed).slot 1).contactorCmd.map (·.cmd)) = some .testOff := by decide +kernel

/-- R80: the loss of an OPEN stops the open watch on it also where the slot's feeder is DISABLED. -/
theorem test_lost_open_of_a_disabled_feeder :
    let s := (inState .disabled).setSlot 0 { demo.slot 0 with openWatch := some 0 }
    let m : Image := { image with feeders := image.feeders.set 0 { image.feeders[(0 : Fin 8)] with inService := false } }
    ((failureBranch 0 .open 7 (s.setSst { s.sst with inUse := m })).slot 0).openWatch = none := by decide +kernel

/-- 11.2: a trip record of IOC and DIDT, 300 A, NORMAL: count 2 and its causes 1 and 3, primary cause 1, current present,
group, time and its flags. -/
theorem test_trip_record_bytes :
    tripItem { causes := [.ioc, .didt], current := some 300, group := .normal, time := 5, timeSet := true } =
      [2, 1, 3, 1, 1, 1, 44, 0, 0, 0, 0, 0, 0, 5, 1] := by decide +kernel

/-- The start-up check running, with every point FRESH and with one that has not been. -/
theorem witness_start_timeout :
    demo.msu.startRunning = true ∧ demo.msu.startSet = [] ∧ neverFresh demo = [] ∧
    (demo.setPoint 3 { fresh 0 with freshSince := false }).msu.startRunning = true ∧
    neverFresh (demo.setPoint 3 { fresh 0 with freshSince := false }) = [3] := by decide +kernel

/-- A presentation to feeder 0 in CLOSED at the thresholds: I_max, −I_rev, and θ at I_th². -/
theorem witness_feeder_evaluation :
    let s := present (.current 0) 0 100 (inState .closed)
    let pr : Presentation :=
      { target := .current 0, point := 0, value := 100, state := .fresh, advance := 1, resync := false,
        saturating := true, history := 100 :: List.replicate 15 0, frame := [] }
    nextFor (.current 0) s = some pr ∧ inService s 0 = true ∧ s.img.feeders[(0 : Fin 8)].currentPoint = pr.point ∧
    (s.prot 0).demand = none ∧ (s.feeder 0).state = .closed ∧ pr.state = .fresh ∧
    ((s.feeder 0).permit = false ∧ ((activeSettings s 0).iMax : Int) ≤ pr.value) ∧
    ((activeSettings s 0).iRev ≠ 0 ∧ (-100 : Int) ≤ -((activeSettings s 0).iRev : Int)) ∧
    (pr.saturating = true ∧ s.img.feeders[(0 : Fin 8)].tripOnOverflow = true) ∧
    ((s.img.feeders[(0 : Fin 8)].iTh : Int) * s.img.feeders[(0 : Fin 8)].iTh ≤
      ({ s.prot 0 with theta := 10000 } : Protection).theta) ∧
    ({ pr with state := .warming } : Presentation).state ≠ .fresh ∧
    ((inState .opened).feeder 0).state ≠ .closed ∧ ((inState .opened).feeder 0).state ≠ .closing ∧
    ((s.prot 0).thermalAlarm = false ∧ activeGroup s 0 = .isolated ∧
      ({ s.prot 0 with groupInUse := some .normal } : Protection).groupInUse = some .normal) := by decide +kernel

/-- A rise that begins at 5 × r = 2 × S_start, one that does not, and one that goes on, with DIDT and DELTA_I met. -/
theorem witness_rise :
    let s := present (.current 0) 0 1 (inState .closed)
    let ge := activeSettings s 0
    (nextFor (.current 0) s).isSome = true ∧ (s.prot 0).rise = .quiet ∧
    (nextFor (.current 0) s).map (fun pr => pr.history.getD 4 pr.value) = some 0 ∧
    (2 * (ge.sStart : Int) ≤ 5 * (1 - 0) ∧ ¬ 2 * (ge.sStart : Int) ≤ 5 * (0 - 0)) ∧
    ge.nRate ≤ min 65535 1 ∧ ((ge.dISet : Int) ≤ 100 - 0 ∧ ge.nDly ≤ 0) ∧
    (s.setProt 0 { s.prot 0 with rise := .rising 0 4 0 0 }).prot 0 = { s.prot 0 with rise := .rising 0 4 0 0 } := by
  decide +kernel

/-- Line voltages at U_min and below it, armed and not, and a feeder that closes out of REMOTE_WAIT. -/
theorem witness_line_voltage :
    let s := present (.line 0) 1 100 (inState .closed)
    (nextFor (.line 0) s).isSome = true ∧ inService s 0 = true ∧ s.img.feeders[(0 : Fin 8)].linePoint = 1 ∧
    (uvArmed s 0 = true ∧ (activeSettings s 0).uMin = 100 ∧ (s.feeder 0).state ≠ .remoteWait) ∧
    uvArmed (inState .opened) 0 = false ∧
    (let w := linked .fed ((inState .remoteWait).setPoint 1 (fresh 50))
     (w.feeder 0).state = .remoteWait ∧ sectionLinkUp w 0 = true ∧ remoteEnd w 0 = .fed ∧ lineLive w 0 = true ∧
      (w.feeder 0).mask = false ∧ (w.feeder 0).permit = false ∧ controlFull w.rp = false) := by decide +kernel

/-- Running undervoltage and loss timers, with the demand allowed. -/
theorem witness_protection_timers :
    let s := (inState .closed).setProt 0 { demo.prot 0 with uvTimer := some 0, lossTimer := some 0 }
    (s.prot 0).uvTimer = some 0 ∧ alarmActive s .lineUndervoltage = false ∧ (s.prot 0).lossTimer = some 0 ∧
    s.img.feeders[(0 : Fin 8)].tripOnLoss = true ∧ (s.prot 0).demand = none ∧ (s.feeder 0).state = .closed := by
  decide +kernel

/-- An evaluation in REGULATING, one ampere below I_rect_max, and one at it. -/
theorem witness_rectifier_evaluation :
    let s := present .rectifier 2 600 ((rectIn .regulating .closed).setPoint 3 (fresh 99))
    (nextFor .rectifier s).isSome = true ∧ s.img.rect.busPoint = 2 ∧
    rectCurrent s < (s.img.rect.iRectMax : Int) ∧ s.rct.state = .regulating ∧
    (let w := (rectIn .ramp .closed).setPoint 3 (fresh 100)
     running w.rct.state = true ∧ w.rct.state ≠ .waitBreaker ∧ w.rct.groupPos = some .closed ∧
      (w.img.rect.iRectMax : Int) ≤ rectCurrent w) ∧
    (rectIn .stopped .opened).rct.state = .stopped := by decide +kernel

/-- A ramp and a restore with their limits. -/
theorem witness_ramp_and_restore :
    let s := rectIn .ramp .closed
    let w := rectIn .restoring .closed
    (s.setRct { s.rct with dSs := some 10 }).rct.dSs = some 10 ∧ s.rct.state = .ramp ∧
    (w.setRct { w.rct with dRest := some 5 }).rct.dRest = some 5 ∧ w.rct.state = .restoring ∧
    rectCurrent s < (s.img.rect.iRectMax : Int) ∧
    (let b := present .rectifier 2 600 ((rectIn .phaseBack .closed).setPoint 3 (fresh 99))
     (nextFor .rectifier b).map (fun pr => decide (presentedCurrent pr b < (b.img.rect.iRectMax : Int))) = some true ∧
      b.rct.state = .phaseBack) := by decide +kernel

/-- The angle of the output demand in force, and a firing table that does not rise. -/
theorem witness_firing_angle :
    demo.rct.alpha = demo.rct.out.map (firingAngle demo.img) ∧
    (∀ i j : Fin 33, i ≤ j → image.firing[j] ≤ image.firing[i]) ∧
    image.firing.toList.getD 31 0 = 50 := by decide +kernel

/-- A held evaluation with the bus voltage point STALE, not firing, and firing with the current at I_rect_max. -/
theorem witness_held_evaluation :
    (let s := demo.setPoint 2 { fresh 600 with state := .stale }
     (s.setRct { s.rct with held := some 0 }).rct.held = some 0 ∧ busLost s = true ∧ firing s.rct = false) ∧
    (let s := ((rectIn .regulating .closed).setPoint 2 { fresh 600 with state := .stale }).setPoint 3 (fresh 100)
     (s.setRct { s.rct with held := some 0 }).rct.held = some 0 ∧ busLost s = true ∧ running s.rct.state = true ∧
      s.rct.state ≠ .waitBreaker ∧ s.rct.groupPos = some .closed ∧ s.img.rect.iRectMax = 100 ∧ rectCurrent s = 100 ∧
      s.ltu.circuit ≠ .settling ∧ s.ltu.circuit ≠ .measuring) ∧
    (rectIn .waitBreaker .closed).rct.state = .waitBreaker ∧
    rectCurrent ((rectIn .regulating .closed).setPoint 3 (fresh 99)) < 100 := by decide +kernel

/-- A running bus-loss timer and a running sync timer of a rectifier that is not TRIPPED. -/
theorem witness_rectifier_timeouts :
    let r := (rectIn .regulating .closed).rct
    r.state ≠ .tripped ∧ ({ r with busLoss := some 0 } : Rect).busLoss = some 0 ∧
    (r.setGate .b { r.gateB with sync := some 0 }).gate .b = { r.gateB with sync := some 0 } := by decide +kernel

/-- PHASE_BACK with its timer running, with the group's current below I_rect_max and at it. -/
theorem witness_phase_back :
    let s := rectIn .phaseBack .closed
    (s.setRct { s.rct with pbTimer := some 0 }).rct.pbTimer = some 0 ∧ s.rct.state = .phaseBack ∧
    rectCurrent s < (s.img.rect.iRectMax : Int) ∧
    (s.img.rect.iRectMax : Int) ≤ rectCurrent (s.setPoint 3 (fresh 100)) := by decide +kernel

/-- Statuses of gate unit A without and with misfires, firing and not. -/
theorem witness_gate_status :
    let f : RingFrame := { dst := 254, src := 30, kind := 5, payload := [1, 3] }
    gateOfAddress image 30 = some .a ∧ gateReport f = some (true, 3) ∧
    gateReport { f with payload := [0, 0] } = some (false, 0) ∧ (rectIn .regulating .closed).rct.state ≠ .tripped ∧
    firing (rectIn .regulating .closed).rct = true ∧ 3 ≤ misfireSum [(0, 3)] ∧ misfireSum [(0, 2)] < 3 ∧
    firing demo.rct = false := by decide +kernel

/-- A running silence timer out of gate fault, and a misfire history. -/
theorem witness_gate_times :
    (demo.rct.gate .a).silence = some 0 ∧ alarmActive demo .gateFault = false ∧ gateFault demo.rct .a = false ∧
    ({ demo.rct with misfires := [(0, 1)] } : Rect).misfires = (0, 1) :: [] := by decide +kernel

/-- A setpoint for a unit of the demo station. -/
def setpoint (a : Byte) (payload : List Byte) : RingFrame := { dst := a, src := 254, kind := 4, payload := payload }

/-- The demo station firing, with a FIRE for each unit queued behind a frame that is being sent. -/
def firingQueued : State :=
  let s := rectIn .regulating .closed
  (s.setRp { s.rp with
    sending := some (sample 1), control := [setpoint 30 [1, 0, 50], setpoint 31 [1, 0, 50]] }).setRct
    { s.rct with busLoss := some 0 }

/-- A CONTROL queue that is kept while it is empty, with a FIRE for each unit, and with 14 commands and two setpoints that
a switch has left; and the conditions of the trip clauses. -/
theorem witness_setpoints :
    ControlKept demo.rp.control ∧ ControlKept firingQueued.rp.control ∧
    ControlKept (List.replicate 14 { dst := 16, src := 254, kind := 2, payload := [1, 0] } ++
      [setpoint 40 [0, 0, 0], setpoint 41 [0, 0, 0]]) ∧
    (firing firingQueued.rct = true ∧ firingQueued.rct.state ≠ .tripped ∧ fitted firingQueued.img 8 = true ∧
      firingQueued.rct.groupPos ≠ some .opened ∧ firingQueued.fsq.groupState ≠ .tripping) ∧
    (rectIn .tripped .opened).rct.state = .tripped := by
  unfold ControlKept; decide +kernel

/-- R55, R66: a trip leaves BLOCK in the place of each FIRE, and asks slot 8 to trip. -/
theorem test_trip_blocks_both_units :
    let t := rectTrips .busMeas firingQueued
    t.rp.control = [setpoint 30 [0, 0, 0], setpoint 31 [0, 0, 0]] ∧
    ((t.slot 8).breakerCmd.map (·.cmd)) = some .trip ∧
    (t.recs.log.drop firingQueued.recs.log.length).map (·.kind) = [.rectTrip] := by decide +kernel

/-- R170: triggers by the mask: a segment in RECORDING, one in POST, post rows 0, and a mask with and without a cause. -/
theorem witness_triggers :
    activeSegment demo.recs = some 0 ∧ demo.recs.segments[(0 : Fin 4)].state = .recording ∧
    0 < demo.img.capture.postRows ∧ ({ image.capture with postRows := 0 } : CaptureEntry).postRows = 0 ∧
    triggerTaken { image with capture := { image.capture with maskRect := true } } .rectTrip = true ∧
    triggerTaken { image with capture := { image.capture with maskRect := false } } .rectTrip = false ∧
    (let g : Segment := { recordingSegment with state := .post }
     activeSegment { demo.recs with segments := demo.recs.segments.set 0 g } = some 0 ∧ g.state ≠ .recording) := by
  decide +kernel

/-- R170, R171: with post rows 0 a trigger freezes the segment at the latest row, and one that the mask does not name
changes nothing. -/
theorem test_trigger_follows_the_mask :
    (let s := demo.setRecs { demo.recs with
        segments := demo.recs.segments.set 0 { recordingSegment with
          rows := List.replicate 3 { advance := 1, resync := false, channels := [] } } }
     let m (on : Bool) := s.setSst { s.sst with
        inUse := { image with capture := { image.capture with postRows := 0, maskRect := on } } }
     ((captureTrigger .rectTrip (m true)).recs.segments[(0 : Fin 4)].header.map fun h => (h.cause, h.triggerRow)) =
        some (.rectTrip, some 2) ∧
     (captureTrigger .rectTrip (m false)).recs = s.recs) := by decide +kernel

/-- ServiceKept of a state with no commit in progress, by its parts. -/
theorem service_kept (s : State) (h : contentChecks s.rp.own s.img = none ∧ contentChecks s.rp.own s.sst.reference = none ∧
      committing s = false ∧ (∀ f : Fin 8, (s.feeder f).state = .disabled ↔ inService s f = false) ∧
      (s.ltu.queue.map (·.1)).Nodup ∧ (∀ f : Fin 8, (s.feeder f).state = .testWait → f ∈ s.ltu.queue.map (·.1)) ∧
      ∀ e ∈ s.ltu.queue, (s.feeder e.1).state = .testWait ∧ (s.feeder e.1).cls = some e.2) : ServiceKept s :=
  ⟨h.1, h.2.1, fun hc => absurd hc (by simp [h.2.2.1]), h.2.2.2⟩

/-- The station with feeder 0 tested on slot 0, the circuit and the feeder in a state. -/
def testedIn (c : CircuitState) (st : FeederState) : State :=
  (circuitIn c 0).setFeeder 0 { demo.feeder 0 with state := st, cls := some .operator }

/-- The station with the circuit connecting slot 1. -/
def testedElsewhere : State :=
  demo.setLtu { demo.ltu with circuit := .connecting, record := some { record 0 with feeder := some 1, slot := 1 } }

/-- A status of slot 0 with its contactor ON. -/
def onStatus : RingFrame := { dst := 254, src := 16, kind := 3, payload := [0, 6, 0] }

/-- A status of slot 0 in each state that the statement names: by the feeder's state, with a self-trip, in a stage of a test,
and with a stray contactor. -/
theorem witness_breaker_status :
    slotOfAddress image 16 = some 0 ∧ (statusOf (status 0)).map (·.position) = some .opened ∧
    (statusOf (status 1)).map (·.position) = some .closed ∧ (statusOf (status 2)).map (·.position) = some .moving ∧
    feederOfSlot image 0 = some 0 ∧
    (∀ st ∈ [FeederState.unresolved, .opening, .closed, .closing, .deadTime, .lockout], ((inState st).feeder 0).state = st) ∧
    ((inState .closed).slot 0).report.map (·.position) ≠ some .opened ∧
    (statusOf { status 0 with payload := [0, 5, 0] }).map (·.selfTrip) = some true ∧
    (demo.slot 0).openWatch = none ∧
    ((demo.setSlot 0 { demo.slot 0 with openWatch := some 0 }).slot 0).openWatch ≠ none ∧
    (statusOf onStatus).map (·.contactorOn) = some true ∧
    ((testedIn .connecting .testing).ltu.record = some (record 0) ∧ (record 0).slot = 0 ∧ (record 0).feeder = some 0 ∧
      ((testedIn .connecting .testing).feeder 0).state = .testing ∧ defers (testedIn .connecting .testing) = false ∧
      ((testedIn .connecting .testing).slot 0).contactorCmd = none ∧ regulates RectState.regulating = true) ∧
    (testedSlot demo 0 = false ∧ contactorSlot demo.img 0 = true ∧ demo.ltu.circuit ≠ .outOfService ∧
      controlFull demo.rp = false) ∧
    (testedSlot testedElsewhere 0 = false ∧ testInProgress testedElsewhere.ltu.circuit = true ∧
      testedElsewhere.ltu.record ≠ none ∧ isStray testedElsewhere 0 = false) := by decide +kernel

/-- A late close within an open watch in each waiting state, and the outcomes of a test that ends in DISCONNECTING, by the
class, the shots, the close mask and live permission. -/
theorem witness_status_in_a_test :
    (∀ st ∈ [FeederState.testWait, .testing, .remoteWait],
      (((inState st).setSlot 0 { demo.slot 0 with openWatch := some 0 }).feeder 0).state = st) ∧
    testedSlot demo 0 = false ∧ testedSlot (testedIn .measuring .testing) 0 = true ∧
    (testedIn .measuring .testing).ltu.circuit ≠ .disconnecting ∧
    (∀ x ∈ [TestResult.pass, .fail, .live, .noCurrent],
      let m : Measured := { result := x, lineAvg := 0, busAvg := 600, resistance := none }
      let s := testedIn .disconnecting .testing
      let r : TestRecord := { record 16 with outcome := .result m }
      ({ s.ltu with record := some r } : Ltu).record = some r ∧ r.slot = 0 ∧ r.feeder = some 0 ∧ m.result = x ∧
        (s.feeder 0).cls = some .operator ∧ 0 < (s.feeder 0).shots ∧ (s.feeder 0).mask = false ∧
        (s.feeder 0).permit = false ∧ controlFull s.rp = false ∧ livePermission s 0 = false ∧
        livePermission (linked .fed s) 0 = true) ∧
    ({ reported .moving with contactorOn := true } : StatusReport).contactorOn = true ∧
    (let f : Feeder := { demo.feeder 0 with state := .testing, cls := some .reclose, shots := 0, mask := true }
     f.cls = some .reclose ∧ f.shots = 0 ∧ f.mask = true) := by decide +kernel

/-- A tested slot that no feeder names, its feeder in TESTING, with its contactor reported ON before. -/
def unnamedIn (c : CircuitState) : State :=
  let s := (testedUnnamed.setFeeder 0 { demo.feeder 0 with state := .testing, cls := some .operator }).setSlot 1
    { demo.slot 1 with report := some { reported .opened with contactorOn := true } }
  s.setLtu { s.ltu with
    circuit := c
    record := some { record 0 with
      slot := 1, outcome := .result { result := .fail, lineAvg := 0, busAvg := 600, resistance := none } } }

/-- Statuses of a tested slot that no feeder names, and of the slot of a DISABLED feeder. -/
theorem witness_unnamed_slot :
    slotOfAddress testedUnnamed.img 17 = some 1 ∧ (∀ g, slotOf testedUnnamed.img g ≠ 1) ∧
    (∀ c ∈ [CircuitState.connecting, .settling, .measuring, .disconnecting],
      (unnamedIn c).ltu.circuit = c ∧ ((unnamedIn c).ltu.record.map fun r => (r.slot, r.feeder)) = some (1, some 0) ∧
        ((unnamedIn c).feeder 0).state = .testing ∧ ((unnamedIn c).slot 1).contactorCmd = none ∧
        defers (unnamedIn c) = false ∧ ((unnamedIn c).slot 1).report.any (·.contactorOn) = true) ∧
    (let m : Image := { image with feeders := image.feeders.set 0 { image.feeders[(0 : Fin 8)] with inService := false } }
     slotOfAddress m 16 = some 0 ∧ feederOfSlot m 0 = none ∧ slotOf m 0 = 0) := by decide +kernel

/-- Those states keep ServiceKept. -/
theorem witness_unnamed_service :
    ServiceKept (unnamedIn .connecting) ∧ ServiceKept (unnamedIn .settling) ∧ ServiceKept (unnamedIn .disconnecting) :=
  ⟨service_kept _ (by decide +kernel), service_kept _ (by decide +kernel), service_kept _ (by decide +kernel)⟩

/-- R107, R112, R115: an OFF report of such a slot drops a test out in SETTLING, and ends it in DISCONNECTING. -/
theorem test_unnamed_slot_is_presented :
    (acceptedStatus 1 (reported .opened) (unnamedIn .settling)).ltu.circuit = .outOfService ∧
    (acceptedStatus 1 (reported .opened) (unnamedIn .disconnecting)).ltu.circuit = .idle := by decide +kernel

/-- R75: a self-trip from CLOSING leaves the CLOSE outstanding. -/
theorem test_self_trip_keeps_the_close :
    let c : Command := { cmd := .close, tag := 3, echoed := true, sentAt := 0, echo := none }
    let s := (inState .closing).setSlot 0 { demo.slot 0 with breakerCmd := some c }
    ((acceptedStatus 0 { reported .opened with selfTrip := true } s).slot 0).breakerCmd = some c := by decide +kernel

/-- The states of `witness_breaker_status` and `witness_group_status` keep ServiceKept. -/
theorem witness_service_kept :
    ServiceKept demo ∧ ServiceKept (inState .closed) ∧ ServiceKept (inState .tripping) ∧
    ServiceKept (testedIn .connecting .testing) ∧ ServiceKept (rectIn .waitBreaker .opened) ∧
    ServiceKept testedElsewhere :=
  ⟨service_kept _ (by decide +kernel), service_kept _ (by decide +kernel), service_kept _ (by decide +kernel), service_kept _ (by decide +kernel),
    service_kept _ (by decide +kernel), service_kept _ (by decide +kernel)⟩

/-- A status of slot 8, for each of the rectifier's and the slot's states that the statement names. -/
theorem witness_group_status :
    slotOfAddress image 24 = some 8 ∧
    (let s := rectIn .waitBreaker .opened
     s.rct.state = .waitBreaker ∧ s.rct.groupPos ≠ some .closed ∧ s.rct.autoArmed = true ∧
      ({ s.rct with autoArmed := false } : Rect).autoArmed = false ∧
      ({ s.fsq with groupState := .closing } : Fsq).groupState = .closing) ∧
    (running (rectIn .regulating .closed).rct.state = true ∧ (rectIn .regulating .closed).rct.state ≠ .waitBreaker ∧
      (rectIn .regulating .closed).rct.groupPos = some .closed) ∧
    (demo.rct.state = .stopped ∧ rectPointsInUse demo = true ∧ demo.fsq.groupState = .idle ∧
      ({ demo.rct with autoStart := true } : Rect).autoStart = true) := by decide +kernel

/-- OPEN reported in TRIPPING, for each row of the trip outcome. -/
theorem witness_trip_outcome :
    let s := inState .tripping
    let tr (cs : List Cause) : TripRecord := { causes := cs, current := none, group := .normal, time := 0, timeSet := false }
    (s.feeder 0).state = .tripping ∧
    ((s.setFeeder 0 { s.feeder 0 with lastTrip := some (tr [.overflow]) }).feeder 0).lastTrip = some (tr [.overflow]) ∧
    ((s.feeder 0).permit = false ∧ sectionLinkUp (linked .none s) 0 = true ∧ remoteEnd (linked .none s) 0 ≠ .fed ∧
      remoteEnd (linked .none s) 0 ≠ .held) ∧
    (Cause.measLoss ∉ (tr [.ioc]).causes ∧ Cause.overflow ∉ (tr [.ioc]).causes ∧ (tr [.ioc]).causes ≠ [.intertrip]) ∧
    ((s.feeder 0).withinReclaim = false ∧ (s.feeder 0).recloseActive = false ∧ 0 < (s.feeder 0).shots) ∧
    (∀ g : Fin 8, g ≠ 0 → (s.feeder g).state ≠ .tripping) ∧
    (sectionOf s.img 0 = some 0 ∧ (s.link s.img.sections[(0 : Fin 8)].port).up = false ∧ (tr [.intertrip]).causes = [.intertrip] ∧
      ((linked .held s).link s.img.sections[(0 : Fin 8)].port).up = true ∧
      (linked .held s).sco.sections[(0 : Fin 8)].remote = .held ∧ (linked .fed s).sco.sections[(0 : Fin 8)].remote = .fed ∧
      lineLive s 0 = false ∧ lineLive (s.setPoint 1 (fresh 50)) 0 = true ∧ (s.feeder 0).mask = false ∧
      controlFull s.rp = false) := by decide +kernel

/-- A running freshness timer of a configured slot, and a configured slot without a status. -/
theorem witness_missing_status :
    let s := demo.setSlot 0 { demo.slot 0 with freshness := some 0 }
    (s.slot 0).freshness = some 0 ∧ configured s.img 0 = true ∧ alarmActive s .breakerUnresolved = false ∧
    (s.slot 0).statusSeen = false := by decide +kernel

/-- Outstanding commands of both groups, and an outstanding TRIP with a copy queued. -/
theorem witness_outstanding :
    let c (x : BrkCmd) : Command := { cmd := x, tag := 0, echoed := false, sentAt := 0, echo := some 0 }
    let sl : Slot := { demo.slot 0 with breakerCmd := some (c .close), contactorCmd := some (c .testOff) }
    outstanding sl .breaker = some (c .close) ∧ cmdGroup .close = .breaker ∧ (c .close).echo = some 0 ∧
    outstanding sl .contactor = some (c .testOff) ∧ cmdGroup .testOff = .contactor ∧
    (∀ j : Fin 8, testedSlot demo j = false ∧ isStray demo j = false) ∧ (c .trip).cmd = .trip ∧
    ({ demo.rp with trip := [(0, sample 1)], sending := some (sample 1) } : RingPort).trip.any
      (fun e => decide (e.1 = 0)) = true := by decide +kernel

/-- The issuers of a lost command in the states in which each has a failure branch, with room in CONTROL and without. -/
theorem witness_failure_branches :
    (feederOfSlot image 0 = some 0 ∧ ((inState .closing).feeder 0).state = .closing ∧ controlFull demo.rp = false ∧
      controlFull { demo.rp with control := List.replicate 14 { sample 1 with kind := kindBreakerCommand } } = true ∧
      ((inState .closing).feeder 0).cls ≠ some .reclose ∧ 0 < ((inState .closing).feeder 0).shots ∧
      ({ demo.feeder 0 with cls := some .reclose, shots := 0 } : Feeder).cls = some .reclose) ∧
    (((inState .opening).feeder 0).state = .opening ∧
      ((demo.setSlot 0 { demo.slot 0 with openWatch := some 0 }).slot 0).openWatch ≠ none ∧
      (demo.slot 0).openWatch = none ∧ (demo.feeder 0).state ≠ .opening ∧ (demo.feeder 0).state ≠ .closing) ∧
    ((1 : Fin 9) ≠ 8 ∧ feederOfSlot image 1 = none) ∧
    (testedSlot (circuitIn .connecting 0) 0 = true ∧ (circuitIn .connecting 0).ltu.circuit = .connecting ∧
      testedSlot (circuitIn .disconnecting 0) 0 = true ∧ (circuitIn .disconnecting 0).ltu.circuit = .disconnecting ∧
      (let s := demo.setLtu { demo.ltu with strays := [(0, 0)] }
       testedSlot s 0 = false ∧ isStray s 0 = true ∧ s.ltu.circuit ≠ .outOfService) ∧
      ((testedIn .connecting .testing).feeder 0).state = .testing ∧ (record 0).feeder = some 0) ∧
    (({ demo.fsq with groupState := .closing } : Fsq).groupState = .closing ∧
      (rectIn .waitBreaker .opened).rct.state = .waitBreaker ∧ demo.rct.state ≠ .waitBreaker ∧
      ((demo.setSlot 8 { demo.slot 8 with openWatch := some 0 }).slot 8).openWatch ≠ none ∧
      (demo.slot 8).openWatch = none) := by decide +kernel

/-- CLOSING with its timer running, by each class and with and without a shot. -/
theorem witness_close_timeout :
    let s := inState .closing
    slotOf s.img 0 = 0 ∧ (s.feeder 0).state = .closing ∧ (s.feeder 0).stateTimer = some 0 ∧ controlFull s.rp = false ∧
    (s.feeder 0).cls ≠ some .reclose ∧ 0 < (s.feeder 0).shots ∧
    ({ s.feeder 0 with cls := some .reclose, shots := 0 } : Feeder).cls = some .reclose := by decide +kernel

/-- The three ways into BREAKER_FAIL. -/
theorem witness_breaker_failure :
    let s := (inState .tripping).setSlot 0 { demo.slot 0 with openWatch := some 0 }
    slotOf s.img 0 = 0 ∧ ((s.feeder 0).state = .tripping ∧ (s.feeder 0).stateTimer = some 0) ∧
    ((inState .opening).feeder 0).state = .opening ∧
    (feederOfSlot s.img 0 = some 0 ∧ (s.slot 0).openWatch = some 0 ∧ position s 0 ≠ some .opened) ∧
    alarmActive s .breakerFail = false ∧ s.sst.arbiter = .idle ∧ State.reset.sst.arbiter ≠ .idle ∧
    s.rct.state ≠ .tripped := by decide +kernel

/-- DEAD_TIME with its timer running, free to leave it and held in it. -/
theorem witness_dead_time :
    let s := inState .deadTime
    (s.feeder 0).state = .deadTime ∧ (s.feeder 0).stateTimer = some 0 ∧ (s.prot 0).inhibit = false ∧
    (s.feeder 0).mask = false ∧ (s.feeder 0).permit = false ∧ ({ s.feeder 0 with mask := true } : Feeder).mask = true := by
  decide +kernel

/-- REMOTE_WAIT with its timer running, and a running reclaim timer. -/
theorem witness_remote_and_reclaim :
    let s := inState .remoteWait
    ((s.feeder 0).state = .remoteWait ∧ (s.feeder 0).stateTimer = some 0) ∧
    ({ s.feeder 0 with reclaim := some 0 } : Feeder).reclaim = some 0 := by decide +kernel

/-- Slot 8 in CLOSING and TRIPPING with its timer, and with its open watch. -/
theorem witness_group_breaker :
    let s := demo.setFsq { demo.fsq with groupState := .closing, groupTimer := some 0 }
    (s.fsq.groupState = .closing ∧ s.fsq.groupTimer = some 0 ∧ controlFull s.rp = false) ∧
    ({ s.fsq with groupState := .tripping } : Fsq).groupState = .tripping ∧
    ((s.setSlot 8 { s.slot 8 with openWatch := some 0 }).slot 8).openWatch = some 0 ∧ position s 8 ≠ some .opened ∧
    alarmActive s .breakerFail = false := by decide +kernel

/-- A demand in hand and a presented intertrip, in CLOSED and outside it, with the rectifier firing. -/
theorem witness_trip_demands :
    let d : TripDemand := { causes := [.ioc], current := some 100, group := .isolated, time := 0, timeSet := false }
    let s := ((inState .closed).setProt 0 { demo.prot 0 with demand := some d }).setRct (rectIn .regulating .closed).rct
    slotOf s.img 0 = 0 ∧ ((s.prot 0).demand.map demandRecord).isSome = true ∧
    ((0 : Fin 8) ∈ ({ s.fsq with intertrips := [0] } : Fsq).intertrips) ∧ (s.feeder 0).state = .closed ∧
    (running s.rct.state = true ∧ s.rct.state ≠ .waitBreaker ∧ s.rct.groupPos = some .closed) ∧
    sectionOf s.img 0 = some 0 ∧ ((inState .opened).feeder 0).state ≠ .closed := by decide +kernel

/-- The station with feeder 0 in the test queue, the rectifier regulating and the line at a value. -/
def queued (v : Int) : State :=
  let s := ((rectIn .regulating .closed).setPoint 1 (fresh v)).setFeeder 0
    { demo.feeder 0 with state := .testWait, cls := some .operator }
  s.setLtu { s.ltu with queue := [(0, .operator)] }

/-- The station with feeder 0 in the test queue by a class, its line live with live permission and its mask set. -/
def masked (c : CloseClass) : State :=
  let s := (linked .fed (queued 50)).setFeeder 0 { demo.feeder 0 with state := .testWait, cls := some c, mask := true }
  s.setLtu { s.ltu with queue := [(0, c)] }

/-- A grant's conditions met and not, an entry eligible and not, and a line dead and live, with and without permission. -/
theorem witness_arbiter :
    (let s := queued 49
     (s.ltu.circuit = .idle ∧ s.rct.state = .regulating ∧ usableValue s s.img.rect.busPoint = some 600 ∧
      (s.img.test.vTestMin : Int) ≤ 600 ∧ (∀ k, contactorSlot s.img k = true → contactorOn s k = false) ∧
      s.ltu.strays = []) ∧ s.ltu.queue = [] ++ (0, .operator) :: [] ∧ lineValue s 0 = some 49 ∧
      remoteEnd s 0 ≠ .testing ∧ (49 : Int) < (s.img.test.vLive : Int) ∧
      s.img.breakers[slotOf s.img 0].hasContactor = true ∧ controlFull s.rp = false) ∧
    (let w := queued 50
     lineValue w 0 = some 50 ∧ (w.img.test.vLive : Int) ≤ 50 ∧ livePermission w 0 = false ∧
      livePermission (linked .fed w) 0 = true ∧ (w.feeder 0).mask = false ∧ (w.feeder 0).permit = false ∧
      ((masked .operator).feeder 0).mask = true ∧ (masked .reclose).ltu.queue = [] ++ (0, .reclose) :: []) ∧
    demo.rct.state = .stopped ∧ lineValue ((queued 49).setPoint 1 { fresh 0 with state := .stale }) 0 = none := by
  decide +kernel

/-- Those states keep ServiceKept. -/
theorem witness_arbiter_service :
    ServiceKept (queued 49) ∧ ServiceKept (linked .fed (queued 50)) ∧ ServiceKept (masked .operator) ∧
    ServiceKept (masked .reclose) :=
  ⟨service_kept _ (by decide +kernel), service_kept _ (by decide +kernel), service_kept _ (by decide +kernel),
    service_kept _ (by decide +kernel)⟩

/-- SETTLING with its stage timer, and MEASURING before the sixteenth position and at it, by one position and by five. -/
theorem witness_line_test :
    ((circuitIn .settling 0).ltu.circuit = .settling ∧ (circuitIn .settling 0).ltu.record = some (record 0) ∧
      (record 0).stage = some 0) ∧
    (let s := present .lineTest 1 40 (circuitIn .measuring 15)
     (nextFor .lineTest s).map (·.point) = some 1 ∧ s.ltu.circuit = .measuring ∧ s.ltu.record = some (record 15) ∧
      (1 : Fin 32) ≠ s.img.rect.busPoint ∧ (record 15).feeder = some 0 ∧ (record 15).bus = some 600 ∧
      s.img.feeders[(0 : Fin 8)].linePoint = 1 ∧ (record 15).count < 16 ∧ 16 ≤ (record 15).count + [(40 : Int)].length ∧
      (record 14).count + [(40 : Int)].length < 16 ∧ controlFull s.rp = false) ∧
    (let ps := ((([40, 4, 3, 2, 1, 0] : List Int).take 5).drop 1).reverse ++ [40]
     ps = [1, 2, 3, 4, 40] ∧ (record 10).count + ps.length < 16 ∧ 16 ≤ (record 11).count + ps.length ∧
      ps.take (16 - (record 14).count) = [1, 2]) := by decide +kernel

/-- The stage limits of CONNECTING and DISCONNECTING, and a stray contactor's. -/
theorem witness_contactor_limits :
    ((circuitIn .connecting 0).ltu.circuit = .connecting ∧ (circuitIn .disconnecting 0).ltu.circuit = .disconnecting ∧
      (record 0).stage = some 0) ∧
    (let s := demo.setLtu { demo.ltu with strays := [(3, 0)] }
     s.ltu.circuit ≠ .outOfService ∧ (s.ltu.strays.find? fun e => decide (e.1 = 3)) = some (3, 0)) ∧
    ((inState .testing).feeder 0).state = .testing ∧
    (let s := circuitIn .disconnecting 0
     testedSlot s 0 = true ∧ fitted s.img 0 = true ∧ feederOfSlot s.img 0 ≠ none ∧ s.rp.control.length ≤ 6 ∧
      fitted s.img 1 = false) ∧
    (testedSlot testedUnnamed 1 = true ∧ fitted testedUnnamed.img 1 = true ∧
      (∀ g, slotOf testedUnnamed.img g = 1 → inService testedUnnamed g = true) ∧
      feederOfSlot testedUnnamed.img 0 = none ∧ slotOf testedUnnamed.img 1 = 0) := by decide +kernel

/-- A presentation of the pacing point, to a segment in RECORDING and to one in POST at its last row. -/
theorem witness_capture_row :
    let s := present .capture 0 5 demo
    (nextFor .capture s).isSome = true ∧ pacingPoint s.img = 0 ∧ activeSegment s.recs = some 0 ∧
    ((s.point 0).state ≠ .stale ∧ (s.point 0).state ≠ .unmapped) ∧ pacingPoint s.img ≠ 1 ∧
    ((s.setPoint 0 { s.point 0 with state := .stale }).point 0).state = .stale ∧
    s.recs.segments[(0 : Fin 4)].state = .recording ∧
    (let g : Segment := { recordingSegment with state := .post, postCount := 767, header := some (triggerHeader s 0 .manual) }
     activeSegment { s.recs with segments := s.recs.segments.set 0 g } = some 0 ∧
      s.img.capture.postRows ≤ g.postCount + 1 ∧ g.header.isSome = true) := by decide +kernel

/-- A station id and sections that a pilot frame can carry. -/
theorem witness_pilot_bytes :
    1 ≤ image.station.stationId ∧ image.station.stationId ≤ 65535 ∧ sectionsOn image .one = [0] ∧
    image.sections[(0 : Fin 8)].sectionId ≠ 0 ∧ ((sectionsOn image .one).map fun i => image.sections[i].sectionId).Nodup := by
  decide +kernel

/-- Pilot frames: not valid, of the local id, first and third in sequence, and repeated and new on an UP link. -/
theorem witness_pilot_frame :
    portConfigured image .one = true ∧ parsePilot [] = none ∧
    parsePilot (withCheck [7, 0, 2, 0, 9, 1, 5, 129]) =
      some { stationId := 2, seq := 9, items := [{ sectionId := 5, endState := .fed, flag := true }] } ∧
    (parsePilot (withCheck [5, 0, 1, 0, 9, 0])).map (·.stationId) = some image.station.stationId ∧
    (demo.link .one).up = false ∧
    (let l : Link := { demo.link .one with run := 2, remoteId := some 2, lastSeq := some 8 }
     l.run ≠ 0 ∧ l.remoteId = some 2 ∧ l.lastSeq.map (· + 1) = some (9 : BitVec 16)) ∧
    ((linked .fed demo).link .one).up = true ∧ ((linked .fed demo).link .one).remoteId = some 2 ∧
    ((linked .fed demo).link .one).lastSeq ≠ some 9 ∧
    (let s := linked .fed demo
     unknownItems image .one [{ sectionId := 7, endState := .held, flag := true }] =
        [{ sectionId := 7, endState := .held, flag := true }] ∧ (s.link .one).unknown = [] ∧
      itemOf [] s.img.sections[(0 : Fin 8)].sectionId = none ∧ s.sco.sections[(0 : Fin 8)].remote ≠ .none ∧
      s.sco.sections[(0 : Fin 8)].flag = false ∧ (s.link .one).conflict = false) := by decide +kernel

/-- R126, R127, R129: the events of a frame without the local section, with an unknown one, and with the flag set. -/
theorem test_pilot_items_are_applied :
    let s := linked .fed demo
    let u := applyItems .one [{ sectionId := 7, endState := .held, flag := true }] s
    let w := applyItems .one [{ sectionId := 5, endState := .tripped, flag := true }] s
    ((u.recs.log.drop s.recs.log.length).map (·.kind) = [.sectionMissing, .unknownSection] ∧ u.sco.sections[(0 : Fin 8)].remote = .none ∧
      (u.link .one).unknown = [(7, true)] ∧ u.fsq.intertrips = []) ∧
    ((w.recs.log.drop s.recs.log.length).map (·.kind) = [.transferTripIn] ∧ w.sco.sections[(0 : Fin 8)].remote = .tripped ∧
      w.sco.sections[(0 : Fin 8)].flag = true ∧ w.fsq.intertrips = [0]) := by decide +kernel

/-- A frame of another station on an UP link. -/
theorem witness_id_change :
    (parsePilot (withCheck [5, 0, 3, 0, 9, 0])).map (·.stationId) = some 3 ∧ image.station.stationId ≠ 3 ∧
    ((linked .fed demo).link .one).up = true ∧ ((linked .fed demo).link .one).remoteId ≠ some 3 := by decide +kernel

/-- A higher station id than the remote one. -/
def senior (s : State) : State :=
  s.setSst { s.sst with inUse := { image with station := { image.station with stationId := 3 } } }

/-- Changes presented to a feeder in REMOTE_WAIT, of the active group, and to a test that defers. -/
theorem witness_presented_changes :
    (let s := linked .fed ((inState .remoteWait).setPoint 1 (fresh 50))
     let b := linked .tripped (inState .remoteWait)
     (s.feeder 0).state = .remoteWait ∧ sectionOf s.img 0 ≠ none ∧ remoteEnd b 0 ≠ remoteEnd s 0 ∧
      sectionLinkUp s 0 = true ∧ remoteEnd s 0 = .fed ∧ lineLive s 0 = true ∧ (s.feeder 0).mask = false ∧
      (s.feeder 0).permit = false ∧ s.rp.control.length ≤ 6 ∧ sectionLinkUp (inState .remoteWait) 0 = false ∧
      remoteEnd (linked .held (inState .remoteWait)) 0 = .held) ∧
    (let b := (inState .closed).setProt 0 { demo.prot 0 with selection := .auto, uvTimer := some 0 }
     let s := linked .fed b
     activeGroup b 0 ≠ activeGroup s 0 ∧ activeGroup b 1 = activeGroup s 1 ∧ uvArmed s 0 = false ∧
      activeGroup s 0 ≠ activeGroup b 0 ∧ uvArmed b 0 = true ∧ (b.prot 0).uvTimer = some 0) ∧
    (let s := linked .testing (senior (testedIn .settling .testing))
     s.ltu.record = some (record 0) ∧ (record 0).feeder = some 0 ∧ s.ltu.circuit = .settling ∧
      (s.feeder 0).state = .testing ∧ sectionOf s.img 0 = some 0 ∧ s.sco.sections[(0 : Fin 8)].remote = .testing ∧
      (s.link s.img.sections[(0 : Fin 8)].port).remoteId = some 2 ∧ 2 < s.img.station.stationId ∧
      s.rp.control.length ≤ 6) := by decide +kernel

/-- Those states keep ServiceKept. -/
theorem witness_presented_service :
    ServiceKept (linked .fed ((inState .remoteWait).setPoint 1 (fresh 50))) ∧
    ServiceKept (linked .testing (senior (testedIn .settling .testing))) :=
  ⟨service_kept _ (by decide +kernel), service_kept _ (by decide +kernel)⟩

/-- Running silence and hold timers; the grace timer runs from reset. -/
theorem witness_pilot_times :
    portConfigured demo.img .one = true ∧ (demo.link .one).grace = some 0 ∧
    ({ demo.link .one with silence := some 0 } : Link).silence = some 0 ∧ (demo.link .one).up = false ∧
    ({ coldSection with hold := some 0 } : SectionRec).hold = some 0 := by decide +kernel

/-- An entry written, and an image whose entries pass. -/
theorem witness_settings_entries :
    (writeEntry image .firing 32 [50]).isSome = true ∧ entriesPass image = true ∧
    entryFields image .manager 3 = some [0, 0] := by decide +kernel

/-- A commit in progress whose change checks pass, and flags writes. -/
theorem witness_store_writes :
    let s := demo.setSst { demo.sst with
      settings := .committing .default, arbiter := .image, writeStart := some 0, staging := some image }
    (s.sst.settings = .committing .default ∧ s.sst.arbiter = .image ∧ s.sst.writeStart = some 0 ∧
      s.sst.staging = some image ∧ s.sst.imageWaiting = false ∧ changeChecks (s.reach (0 + 150000)) image = none) ∧
    changeChecks (((inState .closed).setSst s.sst).reach (0 + 150000)) (defaultImage 254) =
      some { reason := .liveFeeder, table := .feeder, entry := 0 } ∧
    ({ State.reset.sst with flagsRetry := true } : Sst).flagsRetry = true ∧
    (State.reset.sst.arbiter = .flags ∧ State.reset.sst.imageWaiting = false ∧ State.reset.sst.flagsPending = false ∧
      State.reset.sst.flagsRetry = false) ∧
    ({ State.reset.sst with imageWaiting := true } : Sst).imageWaiting = true := by decide +kernel

/-- A request of every right from the manager is admitted while nothing is committed and the image is staged. -/
theorem witness_admitted :
    let s := demo.setSst { demo.sst with staging := some image, settings := .base .trial }
    ∀ q ∈ allRequests, Admitted q 100 s := by
  unfold Admitted
  decide +kernel

/-- Entries staged with a good and a bad form, and images that pass and fail validation. -/
theorem witness_staging :
    stageWriteLengthOk 7 4 = true ∧ entryArg 7 32 = some (.firing, 32) ∧
    (writeEntry (demo.sst.staging.getD demo.img) .firing 32 ([(50 : BitVec 32)].map (·.toInt))).isSome = true ∧
    writeEntry (demo.sst.staging.getD demo.img) .firing 32 ([(49 : BitVec 32)].map (·.toInt)) = none ∧
    validate demo image = none ∧
    validate demo { image with managers := tabulate fun _ => unusedManager } =
      some { reason := .manager, table := .manager, entry := 0 } := by decide +kernel

/-- The image with point 0 scaled anew, gate unit B and slot 8 moved, feeder 3 in service on slot 3, and two capture
channels. -/
def imageB : Image :=
  { image with
    inputs := (image.inputs.set 0 { input 0 .feederCurrent with offset := 1 }).set 4 (input 4 .feederCurrent)
    feeders := image.feeders.set 3 { image.feeders[(0 : Fin 8)] with currentPoint := 4, slot := 3 }
    breakers := (image.breakers.set 8 { defaultBreaker with address := 25 }).set 3 { defaultBreaker with address := 19 }
    rect := { image.rect with gateB := 32 }
    station := { image.station with stationId := 2 }
    sections := image.sections.set 1 { inUse := true, feeder := 3, port := .two, sectionId := 6 }
    capture := { image.capture with points := image.capture.points.set 0 1, postRows := 0 } }

/-- A switch that changes something of every block, one that takes feeder 0 out of service, and a test it disturbs. -/
theorem witness_switch :
    contentChecks demo.rp.own imageB = none ∧ contentChecks demo.rp.own (defaultImage 254) = none ∧
    (image.inputs[(1 : Fin 32)] = imageB.inputs[(1 : Fin 32)] ∧ image.inputs[(0 : Fin 32)] ≠ imageB.inputs[(0 : Fin 32)]) ∧
    (inService demo 0 = true ∧ imageB.feeders[(0 : Fin 8)].inService = true ∧
      (defaultImage 254).feeders[(0 : Fin 8)].inService = false) ∧
    (inService demo 3 = false ∧ imageB.feeders[(3 : Fin 8)].inService = true ∧
      position (reporting 3 .closed demo) (slotOf imageB 3) = some .closed) ∧
    ((rectIn .regulating .closed).rct.state = .regulating ∧
      ∀ g, ((rectIn .regulating .closed).feeder g).state ≠ .tripping) ∧
    (gateAddress image .a = gateAddress imageB .a ∧ gateAddress image .b ≠ gateAddress imageB .b) ∧
    (image.breakers[(0 : Fin 9)].address = imageB.breakers[(0 : Fin 9)].address ∧
      image.breakers[(8 : Fin 9)].address ≠ imageB.breakers[(8 : Fin 9)].address) ∧
    ((testedIn .settling .testing).ltu.circuit = .settling ∧ image.station.stationId ≠ imageB.station.stationId) ∧
    (portConfigured image .one = portConfigured imageB .one ∧ portConfigured image .two ≠ portConfigured imageB .two) ∧
    ((linked .fed demo).link .one).remoteId = some imageB.station.stationId ∧
    (image.sections[(0 : Fin 8)] = imageB.sections[(0 : Fin 8)] ∧ imageB.sections[(2 : Fin 8)].inUse = false) ∧
    (captureChannels image ≠ captureChannels imageB ∧
      captureChannels image = captureChannels { image with capture := { image.capture with postRows := 0 } }) ∧
    activeSegment demo.recs = some 0 := by decide +kernel

/-- A requester without the right, and a gate that turns a request away. -/
theorem witness_turned_away :
    requestParts (.commit 9 1) = some (.commit, 9, 1, []) ∧ holdsRight demo.img 9 (requestRight .commit) = false ∧
    (holdsRight demo.img 100 (requestRight .commit) = true ∧ gateAnswer .commit demo = some .wrongState) := by
  decide +kernel

/-- A reader, and the entries and images it names. -/
theorem witness_readers :
    holdsRight demo.img 9 .read = true ∧ entryArg 0 0 = some (.station, 0) ∧ entryArg 0 1 = none ∧
    demo.sst.staging = none ∧ committing demo = false := by decide +kernel

/-- The station with a TEST_OFF outstanding to slot 0 since 0. -/
def testOffOut : State :=
  demo.setSlot 0 { demo.slot 0 with
    nextTag := 1, contactorCmd := some { cmd := .testOff, tag := 0, echoed := true, sentAt := 0, echo := none } }

/-- Management's own commands. -/
theorem witness_management :
    (32 ≤ (List.replicate 32 (sample 1)).length ∧ demo.rp.report.length < 32) ∧ badForm 200 [] = true ∧
    demo.sst.settings ≠ .base .trial ∧
    (let s := demo.setSst { demo.sst with settings := .base .trial }
     s.sst.settings = .base .trial ∧ changeChecks s s.sst.reference = none ∧
      changeChecks ((inState .closed).setSst s.sst) s.sst.reference ≠ none) ∧
    (∀ k : Fin 9, (demo.slot k).breakerCmd = none ∧ (demo.slot k).contactorCmd = none) ∧
    ((∀ j : Fin 9, (testOffOut.slot j).breakerCmd = none ∧ (j ≠ 0 → (testOffOut.slot j).contactorCmd = none)) ∧
      (testOffOut.slot 0).contactorCmd.map (·.cmd) = some .testOff) := by decide +kernel

/-- R98, R118: a TEST_OFF issued at 0 and issued again at 30000 takes tag 1, and its 50 ms count from 0. -/
theorem test_reissue_counts_from_the_first_issue :
    ((reissueOne 0 .contactor { testOffOut with now := 30000 }).slot 0).contactorCmd =
      some { cmd := .testOff, tag := 1, echoed := false, sentAt := 0, echo := some 30000 } := by decide +kernel

/-- A trial with feeder 0 on slot 7 in OPENING, and two commands outstanding to each slot below it. -/
def trialOpening : State :=
  let c (x : BrkCmd) : Command := { cmd := x, tag := 0, echoed := false, sentAt := 0, echo := some 0 }
  let s := inState .opening
  { s with
    fsq := { s.fsq with
      slots := tabulate fun k =>
        { demo.slot k with
          breakerCmd := if k.val < 8 then some (c .open) else none
          contactorCmd := if k.val < 7 then some (c .testOff) else none } }
    sst := { s.sst with
      settings := .base .trial
      inUse := { image with feeders := image.feeders.set 0 { image.feeders[(0 : Fin 8)] with slot := 7 } } }
    rp := { s.rp with sending := some (sample 1) } }

/-- R168: the OPEN of slot 7, lost at its new issue behind the 14 commands of slots 0 to 6, raises and latches BREAKER_FAIL
at the warm reset, though the trial's revert then makes the feeder DISABLED. -/
theorem test_warm_reset_latches_before_the_revert :
    (latchSet trialOpening .breakerFail = false ∧ alarmActive trialOpening .breakerFail = false) ∧
    (latchSet (warmRestart trialOpening) .breakerFail = true ∧
      ((warmRestart trialOpening).feeder 0).state = .disabled) := by decide +kernel

/-- Feeder 0 ready to close into a dead line and a live one, with and without live permission. -/
theorem witness_feeder_close :
    let s := reporting 0 .opened demo
    let w := s.setPoint 1 (fresh 50)
    feederArg 0 = some 0 ∧ 8 ≤ (8 : Byte).toNat ∧ slotOf s.img 0 = 0 ∧ closeRefusal (inState .lockout) 0 = some .wrongState ∧
    ((s.feeder 0).state = .opened ∧ (s.feeder 0).mask = false ∧ (s.feeder 0).permit = false ∧ slotReady s 0 = true ∧
      (lineValue s 0).isSome = true ∧ lineLive s 0 = false) ∧
    (lineLive w 0 = true ∧ livePermission w 0 = false ∧ livePermission (linked .fed w) 0 = true ∧
      controlFull w.rp = false) := by decide +kernel

/-- A reset of a lockout and of a breaker failure, with the slot reporting OPEN and not. -/
theorem witness_feeder_resets :
    ((reporting 0 .opened (inState .lockout)).feeder 0).state = .lockout ∧
    reportsOpen (reporting 0 .opened (inState .lockout)) 0 = true ∧ reportsOpen (inState .breakerFail) 0 = false ∧
    ((inState .breakerFail).feeder 0).state = .breakerFail ∧ ((inState .testWait).feeder 0).state = .testWait := by
  decide +kernel

/-- Feeders in DEAD_TIME that the clearing of a mask or of a permit may release, and that it may not. -/
theorem witness_masks_and_permits :
    let s := demo.setFeeder 0 { demo.feeder 0 with state := .deadTime, deadElapsed := true, mask := true }
    (s.feeder 0).state = .deadTime ∧ (s.feeder 0).stateTimer = none ∧ (s.prot 0).inhibit = false ∧
    (s.feeder 0).permit = false ∧ (1 : Byte).getLsbD 0 = true ∧ (2 : Byte).getLsbD 0 = false ∧ (s.feeder 0).mask = true ∧
    ((inState .deadTime).feeder 0).stateTimer ≠ none ∧ feederArg 0 = some 0 := by decide +kernel

/-- Selections that a request can carry. -/
theorem witness_selections :
    selectionArg 0 = some .auto ∧ selectionArg 1 = some .normal ∧ selectionArg 2 = some .isolated := by decide

/-- RECT_START with slot 8 CLOSED and with slot 8 to be closed; RECT_STOP and RECT_RESET. -/
theorem witness_rectifier_requests :
    (demo.rct.state = .stopped ∧ rectPointsInUse demo = true ∧ fitted demo.img 8 = true) ∧
    (rectIn .stopped .closed).rct.groupPos = some .closed ∧
    (demo.rct.groupPos ≠ some .closed ∧ demo.fsq.groupState = .idle ∧ position demo 8 ≠ some .closed ∧
      controlFull demo.rp = false) ∧
    (position (reporting 8 .closed demo) 8 = some .closed ∧ (reporting 8 .closed demo).rct.groupPos ≠ some .closed) ∧
    (({ demo.fsq with groupState := .closing } : Fsq).groupState = .closing ∧
      ({ demo.fsq with groupState := .failed } : Fsq).groupState = .failed ∧
      controlFull { demo.rp with control := List.replicate 14 { dst := 16, src := 254, kind := 2, payload := [1, 0] } } =
        true) ∧
    running (rectIn .waitBreaker .opened).rct.state = true ∧
    ((rectIn .tripped .opened).rct.state = .tripped ∧ (rectIn .tripped .opened).rct.groupPos = some .opened) ∧
    (rectIn .tripped .closed).rct.groupPos ≠ some .opened ∧
    (State.reset.rct.state = .stopped ∧ rectPointsInUse State.reset = false) := by decide +kernel

/-- A test circuit out of service, with nothing to hold its reset back and with a contactor ON. -/
theorem witness_test_circuit_reset :
    let s := circuitIn .outOfService 0
    s.ltu.circuit = .outOfService ∧ (∀ k, holdsReset s k = false) ∧
    holdsReset (s.setSlot 0 { s.slot 0 with unknown := true }) 0 = true ∧
    (let w := s.setSlot 0 { s.slot 0 with report := some { reported .opened with contactorOn := true } }
     contactorSlot w.img 0 = true ∧ contactorOn w 0 = true ∧ w.rp.control.length ≤ 6) := by decide +kernel

/-- Alarms cleared with and without the overflow flags, with nothing saturating. -/
theorem witness_alarms :
    (1#24 &&& alarmBit .mpOverflow = 0) ∧ alarmBit .mpOverflow &&& alarmBit .mpOverflow ≠ 0 ∧
    (∀ q : Fin 32, (demo.point q).saturating = false) ∧
    demo.recs.latched &&& 0#24 &&& ~~~activeMask demo = 0 ∧
    (let s := (pulse .closeFail demo).setPoint 0 { fresh 0 with saturating := true, overflow := true }
     s.img.inputs[(0 : Fin 32)].inUse = true ∧ (s.point 0).saturating = true ∧
      s.recs.latched &&& alarmBit .closeFail &&& ~~~activeMask s ≠ 0) := by decide +kernel

/-- R7, R166: while a point saturates CLEAR_ALARMS leaves the overflow flags, and a latch cleared is logged. -/
theorem test_clear_alarms :
    let s := (pulse .closeFail demo).setPoint 0 { fresh 0 with saturating := true, overflow := true }
    let t := (clearAlarmsOwner 9 (alarmBit .mpOverflow ||| alarmBit .closeFail) s).1
    t.msu = s.msu ∧ (t.recs.log.drop s.recs.log.length).map (fun e => (e.kind, e.detail.number)) =
      [(.alarmsCleared, some (alarmBit .closeFail).toNat)] := by decide +kernel

/-- Segments in RECORDING, POST and FROZEN, a record to read, and a snapshot held. -/
theorem witness_records :
    let h : Header := { triggerHeader demo 0 .manual with record := 1, validRows := 1 }
    let g : Segment := { recordingSegment with state := .frozen, header := some h }
    let s := demo.setRecs { demo.recs with
      segments := demo.recs.segments.set 0 g, readPtr := some { segment := 0, record := 1, row := 0 } }
    (activeSegment demo.recs = some 0 ∧ demo.recs.segments[(0 : Fin 4)].state = .recording ∧
      0 < demo.img.capture.postRows ∧ imageB.capture.postRows = 0) ∧
    activeSegment s.recs = none ∧ segmentArg 0 = some 0 ∧ frozenRecord s 0 = some h ∧
    ((0 : BitVec 16).toNat < h.validRows ∧ h.validRows ≤ (1 : BitVec 16).toNat) ∧
    (1 ≤ (1 : Byte).toNat ∧ (32 : Byte).toNat ≤ 32) ∧ s.recs.readPtr.isSome = true ∧
    s.recs.segments[(1 : Fin 4)].state ≠ .frozen ∧ demo.recs.snapshot = none ∧
    ({ demo.recs with snapshot := some (takeSnapshot demo) } : Records).snapshot ≠ none := by decide +kernel

/-- States that meet each invariant and take a step. -/
theorem witness_invariants :
    AlarmsLatched State.reset ∧ RingKept State.reset ∧ LogKept State.reset ∧ StoreKept State.reset ∧
    ServiceKept State.reset ∧ mayChangeImage .stationReport = false ∧ step State.reset = .next (idleTick State.reset) :=
  ⟨by unfold AlarmsLatched; decide +kernel, by unfold RingKept ControlKept; decide +kernel,
    by unfold LogKept; decide +kernel, ⟨by decide +kernel, by decide +kernel, by decide +kernel, by decide +kernel,
      by decide +kernel⟩, service_kept _ (by decide +kernel), rfl, rfl⟩

end Sys2Proof.Tests
end

