-- ==== Sys2Proof/Proofs/Points.lean ====
section
/-! PROOF. What a SAMPLE frame leaves at each measurement point (R2 to R14): one rule for each step of MSU's handling, and
the obligation that reads them. -/

namespace Sys2Proof.Machine

/-! ### Records -/

/-- Arbitration has no part in MSU. -/
@[simp] theorem arbitrate_msu (s : State) : (arbitrate s).msu = s.msu :=
  congrArg Core.msu (arbitrate_core s)

variable (p : Fin 32) (before : Point) (s : State)

@[simp] theorem noteOverflow_frame (v : Int) :
    (noteOverflow p before v s).msu = s.msu ∧ (noteOverflow p before v s).now = s.now ∧
    (noteOverflow p before v s).sst = s.sst := by
  unfold noteOverflow
  split <;> simp

@[simp] theorem noteResync_frame (c : UpdateClass) :
    (noteResync p before c s).msu = s.msu ∧ (noteResync p before c s).now = s.now ∧
    (noteResync p before c s).sst = s.sst := by
  cases c <;> simp [noteResync]

@[simp] theorem leaveStartSet_frame :
    (leaveStartSet p s).msu.points = s.msu.points ∧ (leaveStartSet p s).now = s.now ∧
    (leaveStartSet p s).sst = s.sst := by
  unfold leaveStartSet
  split <;> simp

/-! ### One point updated -/

variable (seq : BitVec 16) (raw : Int)

/-- The points after one of them is updated: its own record written, by its class. -/
theorem updatePoint_points :
    (updatePoint p seq raw s).msu.points = s.msu.points.set p
      (updatedPoint (classify (s.point p) seq) seq (engineering s.img.inputs[p] raw) (saturates s.img.inputs[p] raw)
        s.now (s.point p)) := by
  simp [updatePoint, State.setPoint]

@[simp] theorem updatePoint_now : (updatePoint p seq raw s).now = s.now := by simp [updatePoint]

@[simp] theorem updatePoint_sst : (updatePoint p seq raw s).sst = s.sst := by simp [updatePoint]

theorem updatePoint_point_self :
    (updatePoint p seq raw s).point p =
      updatedPoint (classify (s.point p) seq) seq (engineering s.img.inputs[p] raw) (saturates s.img.inputs[p] raw)
        s.now (s.point p) := by
  simp [State.point, updatePoint_points]

theorem updatePoint_point_ne {p q : Fin 32} (h : q ≠ p) : (updatePoint p seq raw s).point q = s.point q := by
  simp only [State.point, updatePoint_points]
  exact bank_set_ne _ h _

/-! ### The points of a frame -/

/-- A point that stands in no entry of the list is left as it was. -/
theorem updatePoints_point_of_notMem (l : List (Fin 32 × Int)) (h : p ∉ l.map Prod.fst) :
    (l.foldl (fun x e => updatePoint e.1 seq e.2 x) s).point p = s.point p := by
  induction l generalizing s with
  | nil => rfl
  | cons e l ih =>
    rw [List.map_cons, List.mem_cons, not_or] at h
    rw [List.foldl_cons, ih _ h.2, updatePoint_point_ne _ _ _ h.1]

/-- In a list that names no point twice, the update of an entry's point is by the point's record before them all. -/
theorem updatePoints_point_of_mem {p : Fin 32} {raw : Int} (l : List (Fin 32 × Int)) (hn : (l.map Prod.fst).Nodup)
    (h : (p, raw) ∈ l) :
    (l.foldl (fun x e => updatePoint e.1 seq e.2 x) s).point p =
      updatedPoint (classify (s.point p) seq) seq (engineering s.img.inputs[p] raw) (saturates s.img.inputs[p] raw)
        s.now (s.point p) := by
  induction l generalizing s with
  | nil => cases h
  | cons e l ih =>
    obtain ⟨hne, hn⟩ := List.nodup_cons.mp hn
    rcases List.mem_cons.mp h with rfl | h
    · rw [List.foldl_cons, updatePoints_point_of_notMem _ _ _ _ hne, updatePoint_point_self]
    · have hpe : p ≠ e.1 := fun hp => hne (hp ▸ List.mem_map_of_mem h)
      rw [List.foldl_cons, ih _ hn h, updatePoint_point_ne _ _ _ hpe]
      simp only [State.img, updatePoint_sst, updatePoint_now]

/-- A frame updates each of its points once. -/
theorem presentPoints_nodup (f : RingFrame) : ((presentPoints s f).map Prod.fst).Nodup := by
  rw [presentPoints, List.map_filterMap]
  refine ((List.nodup_finRange 32).filter _).filterMap fun q r b hq hr => ?_
  simp only [Option.map_map, Option.mem_def, Option.map_eq_some_iff, Function.comp_apply] at hq hr
  obtain ⟨-, -, rfl⟩ := hq
  obtain ⟨-, -, rfl⟩ := hr
  rfl

/-- A present point after the frame is taken (R3, R5): updated from its channel's scaled value, by its class. -/
theorem takeSample_point {p : Fin 32} {raw : Int} {f : RingFrame} (h : (p, raw) ∈ presentPoints s f) :
    (takeSample f s).point p =
      updatedPoint (classify (s.point p) (sampleSequence f.payload)) (sampleSequence f.payload)
        (engineering s.img.inputs[p] raw) (saturates s.img.inputs[p] raw) s.now (s.point p) :=
  updatePoints_point_of_mem s _ _ (presentPoints_nodup s f) h

/-- The step on a well-formed SAMPLE frame: taken from MSU's hands and for measurement, then LTU's look. -/
theorem exec_sampleFrame {f : RingFrame} (h : sampleWellFormed f = true) :
    exec (.sampleFrame f) s = .next (latchRises s (arbitrate (takeSample f
      (s.setMsu { s.msu with frames := s.msu.frames.erase f })))) :=
  if_pos h

/-- What the step on a well-formed SAMPLE frame leaves at a present point. -/
theorem exec_sampleFrame_point {p : Fin 32} {raw : Int} {f : RingFrame} (hf : sampleWellFormed f = true)
    (h : (p, raw) ∈ presentPoints s f) :
    ∃ t, exec (.sampleFrame f) s = .next t ∧
      t.point p = updatedPoint (classify (s.point p) (sampleSequence f.payload)) (sampleSequence f.payload)
        (engineering s.img.inputs[p] raw) (saturates s.img.inputs[p] raw) s.now (s.point p) := by
  refine ⟨_, exec_sampleFrame s hf, ?_⟩
  have hmsu : ∀ x, (latchRises s (arbitrate x)).msu = x.msu := by simp
  simp only [State.point, hmsu]
  exact takeSample_point (s.setMsu { s.msu with frames := s.msu.frames.erase f }) h

/-! ### The class of an update -/

variable {seq : BitVec 16} (v : Int) (sat : Bool) (now : Nat) {pt : Point}

/-- A STALE point and a point without value are refilled, whatever the gap (R11, R14). -/
theorem updatedPoint_of_stale_or_unvalued (h : pt.state = .stale ∨ pt.seq = none) :
    updatedPoint (classify pt seq) seq v sat now pt = stampPoint seq sat now (refillPoint v pt) := by
  rcases h with h | h
  · simp [classify, h, updatedPoint]
  · cases hs : pt.state <;> simp [classify, h, hs, updatedPoint]

/-- Of a WARMING or FRESH point that holds a sequence number, the gap alone gives the class (R9 to R11). -/
theorem classify_of_valued {last : BitVec 16} (h : pt.state = .warming ∨ pt.state = .fresh) (hl : pt.seq = some last) :
    classify pt seq =
      if gapOf last seq = 0 then .duplicate
      else if gapOf last seq ≤ 5 then .forward (gapOf last seq) else .resync (some (gapOf last seq)) := by
  rcases h with h | h
  · simp [classify, h, hl]
  · simp [classify, h, hl]

/-- A forward update of a WARMING or FRESH point leaves it FRESH exactly where it was, or where its warm-up count reaches
16 (R12). -/
theorem forwardPoint_fresh_iff {g : Nat} (h : pt.state = .warming ∨ pt.state = .fresh) :
    (forwardPoint g v pt).state = .fresh ↔ pt.state = .fresh ∨ 16 ≤ pt.warm + g := by
  rcases h with h | h
  · simp [forwardPoint, h]
  · simp [forwardPoint, h]

/-- Settles O13: the five steps of the scaling are `scaledValue` and its clamp, and each clause is one class of the
update. -/
theorem updateFollowsTheGap : Obligations.UpdateFollowsTheGap := by
  unfold Obligations.UpdateFollowsTheGap
  rintro f s p raw scaled v seq hf hp rfl rfl rfl
  obtain ⟨t, ht, hpt⟩ := exec_sampleFrame_point s hf hp
  refine ⟨t, ht, fun hrefill => ?_, fun last hlast hstate => ?_⟩
  · rw [hpt, updatedPoint_of_stale_or_unvalued _ _ _ hrefill]; rfl
  · rw [classify_of_valued hstate hlast] at hpt
    unfold gapOf at hpt
    refine ⟨fun hduplicate => ?_, fun hlow hhigh => ?_, fun hresync => ?_⟩
    · rw [hpt, if_pos hduplicate]; rfl
    · rw [if_neg (by omega), if_pos hhigh] at hpt
      rw [hpt]
      exact ⟨rfl, rfl, rfl, rfl, forwardPoint_fresh_iff (engineering s.img.inputs[p] raw) hstate, rfl, rfl⟩
    · rw [hpt, if_neg (by omega), if_neg (by omega)]; rfl

end Sys2Proof.Machine
end

