-- ==== Sys2Proof/Proofs/FiringAngle.lean ====
section
/-! PROOF. The firing angle (R54): the interpolation of the firing table and the order of its angles, then the step lemma
that the angle in force stays the angle of the output demand, from what each operation writes of the rectifier's record
and of the in-use image, and the obligation that reads them. -/

namespace Sys2Proof.Machine

/-! ### The firing table -/

/-- A quotient with ceiling is the least whole number at or above the quotient. -/
theorem ceilDiv_bounds {b : Int} (hb : 0 < b) (a : Int) : a ≤ b * ceilDiv a b ∧ b * (ceilDiv a b - 1) < a := by
  have hmod := Int.emod_add_mul_ediv (-a) b
  have hnonneg := Int.emod_nonneg (-a) hb.ne'
  have hlt := Int.emod_lt_of_pos (-a) hb
  simp only [ceilDiv, Int.mul_sub, Int.mul_neg]
  omega

theorem ceilDiv_mul_self (a : Int) {b : Int} (hb : b ≠ 0) : ceilDiv (a * b) b = a := by
  rw [ceilDiv, ← Int.neg_mul, Int.mul_ediv_cancel _ hb, Int.neg_neg]

theorem ceilDiv_mono {a a' b : Int} (hb : 0 < b) (h : a ≤ a') : ceilDiv a b ≤ ceilDiv a' b :=
  Int.neg_le_neg (Int.ediv_le_ediv hb (Int.neg_le_neg h))

/-- The tabled angle of an entry, as the interpolation reads it. -/
def tabledAngle (m : Image) (j : Nat) : Int := (m.firing.toList.getD j 0 : Nat)

theorem tabledAngle_eq (m : Image) (j : Fin 33) : tabledAngle m j = m.firing[j] := by
  simp [tabledAngle, List.getD_eq_getElem?_getD]

section Table

variable (m : Image)

/-- R54's formula, with the demand split into its entry and its fraction. -/
theorem firingAngle_split {j : Nat} {f : Int} (hj : j < 32) (hf : 0 ≤ f) (hf' : f < 32) :
    firingAngle m (32 * j + f) = tabledAngle m j + ceilDiv ((tabledAngle m (j + 1) - tabledAngle m j) * f) 32 := by
  have hquot : floorDiv (32 * j + f) 32 = j := by rw [floorDiv]; omega
  simp only [firingAngle, hquot, Int.toNat_natCast, if_neg (Nat.not_le.mpr hj), add_sub_cancel_left]
  rfl

/-- The angle of the greatest demand is the last of the table. -/
theorem firingAngle_last : firingAngle m 1024 = m.firing[(32 : Fin 33)] := rfl

/-- The angle between two tabled demands is the least whole number at or above the line through them (R54). -/
theorem firingAngle_between {j : Nat} {f : Int} (hj : j < 32) (hf : 0 ≤ f) (hf' : f < 32) :
    (tabledAngle m (j + 1) - tabledAngle m j) * f ≤ 32 * (firingAngle m (32 * j + f) - tabledAngle m j) ∧
    32 * (firingAngle m (32 * j + f) - tabledAngle m j - 1) < (tabledAngle m (j + 1) - tabledAngle m j) * f := by
  rw [firingAngle_split m hj hf hf', add_sub_cancel_left]
  exact ceilDiv_bounds (by decide) _

/-- At a tabled demand the angle is the tabled angle. -/
theorem firingAngle_tabled {j : Nat} (hj : j ≤ 32) : firingAngle m (32 * j) = tabledAngle m j := by
  rcases hj.lt_or_eq with hlt | rfl
  · simpa [ceilDiv] using firingAngle_split m hlt le_rfl (by decide : (0 : Int) < 32)
  · exact (firingAngle_last m).trans (tabledAngle_eq m 32).symm

/-- The formula holds at both ends of the segment between two tabled demands. -/
theorem firingAngle_segment {j : Nat} {f : Int} (hj : j < 32) (hf : 0 ≤ f) (hf' : f ≤ 32) :
    firingAngle m (32 * j + f) = tabledAngle m j + ceilDiv ((tabledAngle m (j + 1) - tabledAngle m j) * f) 32 := by
  rcases hf'.lt_or_eq with hlt | rfl
  · exact firingAngle_split m hj hf hlt
  · rw [ceilDiv_mul_self _ (by decide), add_sub_cancel, ← firingAngle_tabled m hj, Nat.cast_succ, mul_add_one]

variable {m} (hm : ∀ i j : Fin 33, i ≤ j → m.firing[j] ≤ m.firing[i])
include hm

/-- A table that does not rise has no rising segment. -/
theorem tabledAngle_succ_le {j : Nat} (hj : j < 32) : tabledAngle m (j + 1) ≤ tabledAngle m j := by
  have hle := hm ⟨j, by omega⟩ ⟨j + 1, by omega⟩ (Nat.le_succ j)
  have hj0 := tabledAngle_eq m ⟨j, by omega⟩
  have hj1 := tabledAngle_eq m ⟨j + 1, by omega⟩
  simp only at hj0 hj1
  omega

/-- One step of demand stays in one segment, where the line does not rise. -/
theorem firingAngle_succ_le {d : Int} (h0 : 0 ≤ d) (h1 : d < 1024) : firingAngle m (d + 1) ≤ firingAngle m d := by
  obtain ⟨j, f, rfl, hj, hf, hf'⟩ : ∃ (j : Nat) (f : Int), d = 32 * j + f ∧ j < 32 ∧ 0 ≤ f ∧ f < 32 :=
    ⟨(d / 32).toNat, d % 32, by omega, by omega, by omega, by omega⟩
  rw [add_assoc, firingAngle_segment m hj hf hf'.le, firingAngle_segment m hj (by omega) hf']
  have hslope := tabledAngle_succ_le hm hj
  have hline := mul_le_mul_of_nonpos_left (by omega : f ≤ f + 1) (Int.sub_nonpos_of_le hslope)
  have hceil := ceilDiv_mono (b := 32) (by decide) hline
  omega

/-- A larger demand never gives a larger angle. -/
theorem firingAngle_antitone {d1 d2 : Int} (h0 : 0 ≤ d1) (h12 : d1 ≤ d2) (h2 : d2 ≤ 1024) :
    firingAngle m d2 ≤ firingAngle m d1 := by
  induction d2, h12 using Int.leInduction with
  | base => exact le_rfl
  | succ d hd ih => exact (firingAngle_succ_le hm (h0.trans hd) h2).trans (ih (by omega))

end Table

/-! ### The angle of the output demand -/

/-- The angle in force is the angle of the output demand (R54). Said of the core of a state, so that what keeps the core
keeps it. -/
def AngleFollows (c : Core) : Prop := c.rct.alpha = c.rct.out.map (firingAngle c.inUse)

theorem angleFollows_iff (s : State) :
    AngleFollows (feederCore s) ↔ s.rct.alpha = s.rct.out.map (firingAngle s.img) := Iff.rfl

/-- It rests on the rectifier's record and the in-use image alone. -/
theorem angleFollows_congr {s t : State} (hr : t.rct = s.rct) (hi : t.sst.inUse = s.sst.inUse) :
    AngleFollows (feederCore t) ↔ AngleFollows (feederCore s) := by
  rw [angleFollows_iff, angleFollows_iff, hr, State.img, hi]

section Frames

variable (s : State)

@[simp] theorem setMsu_angle (x : Msu) : AngleFollows (feederCore (s.setMsu x)) ↔ AngleFollows (feederCore s) := Iff.rfl
@[simp] theorem setFsq_angle (x : Fsq) : AngleFollows (feederCore (s.setFsq x)) ↔ AngleFollows (feederCore s) := Iff.rfl
@[simp] theorem setMgt_angle (x : Mgt) : AngleFollows (feederCore (s.setMgt x)) ↔ AngleFollows (feederCore s) := Iff.rfl
@[simp] theorem setRp_angle (x : RingPort) :
    AngleFollows (feederCore (s.setRp x)) ↔ AngleFollows (feederCore s) := Iff.rfl
@[simp] theorem setRecs_angle (x : Records) :
    AngleFollows (feederCore (s.setRecs x)) ↔ AngleFollows (feederCore s) := Iff.rfl
@[simp] theorem setPoint_angle (p : Fin 32) (x : Point) :
    AngleFollows (feederCore (s.setPoint p x)) ↔ AngleFollows (feederCore s) := Iff.rfl
@[simp] theorem setSection_angle (i : Fin 8) (x : SectionRec) :
    AngleFollows (feederCore (s.setSection i x)) ↔ AngleFollows (feederCore s) := Iff.rfl
@[simp] theorem takeFor_angle (t : Target) :
    AngleFollows (feederCore (takeFor t s)) ↔ AngleFollows (feederCore s) := Iff.rfl
@[simp] theorem takeRequest_angle (src tag code : Byte) (args : List Byte) :
    AngleFollows (feederCore (takeRequest src tag code args s)) ↔ AngleFollows (feederCore s) := Iff.rfl
@[simp] theorem respond_angle (src tag code : Byte) (r : Reply) :
    AngleFollows (feederCore (respond src tag code r s)) ↔ AngleFollows (feederCore s) := Iff.rfl
@[simp] theorem beginImageWrite_angle :
    AngleFollows (feederCore (beginImageWrite s)) ↔ AngleFollows (feederCore s) := Iff.rfl
@[simp] theorem setLink_angle (p : Port) (x : Link) :
    AngleFollows (feederCore (s.setLink p x)) ↔ AngleFollows (feederCore s) :=
  angleFollows_congr (by simp) (by simp)
@[simp] theorem reach_angle (n : Nat) : AngleFollows (feederCore (s.reach n)) ↔ AngleFollows (feederCore s) :=
  angleFollows_congr (by simp) (by simp)

/-- The store written with the in-use image kept. -/
@[simp] theorem setSst_angle {x : Sst} (h : x.inUse = s.sst.inUse) :
    AngleFollows (feederCore (s.setSst x)) ↔ AngleFollows (feederCore s) := angleFollows_congr rfl h

end Frames

/-! ### Writes of the rectifier's record -/

@[simp] theorem rectHalt_out (r : Rect) : (rectHalt r).out = none := rfl
@[simp] theorem rectHalt_alpha (r : Rect) : (rectHalt r).alpha = none := rfl
@[simp] theorem setGate_out (r : Rect) (u : GateUnit) (g : Gate) : (r.setGate u g).out = r.out := by cases u <;> rfl
@[simp] theorem setGate_alpha (r : Rect) (u : GateUnit) (g : Gate) : (r.setGate u g).alpha = r.alpha := by
  cases u <;> rfl

section Writes

variable {s : State} {x : Rect}

/-- A write that leaves demand and angle. -/
@[simp] theorem setRct_angle (ho : x.out = s.rct.out) (ha : x.alpha = s.rct.alpha) :
    AngleFollows (feederCore (s.setRct x)) ↔ AngleFollows (feederCore s) := by
  simp [AngleFollows, feederCore, ho, ha]

/-- A write that takes the angle from the demand it sets. -/
@[simp] theorem setDemand_angle (d : Option Int) : AngleFollows (feederCore (s.setRct (withDemand s.img d x))) := rfl

/-- A write that leaves neither a demand nor an angle. -/
@[simp] theorem setHalted_angle (ho : x.out = none) (ha : x.alpha = none) :
    AngleFollows (feederCore (s.setRct x)) := by
  simp [AngleFollows, feederCore, ho, ha]

end Writes

section Keeps

variable (s : State)

/-! ### Capture segments -/

@[simp] theorem freezeSegment_angle (i : Fin 4) :
    AngleFollows (feederCore (freezeSegment i s)) ↔ AngleFollows (feederCore s) := by
  simp only [freezeSegment]
  split <;> simp

@[simp] theorem freezeIfDone_angle (i : Fin 4) :
    AngleFollows (feederCore (freezeIfDone i s)) ↔ AngleFollows (feederCore s) := by
  unfold freezeIfDone
  split <;> simp

@[simp] theorem captureTrigger_angle (c : Cause) :
    AngleFollows (feederCore (captureTrigger c s)) ↔ AngleFollows (feederCore s) := by
  simp only [captureTrigger]
  (repeat' split) <;> simp

@[simp] theorem writeRow_angle (r : Row) :
    AngleFollows (feederCore (writeRow r s)) ↔ AngleFollows (feederCore s) := by
  simp only [writeRow]
  split <;> simp

/-! ### The group breaker -/

@[simp] theorem groupFails_angle : AngleFollows (feederCore (groupFails s)) ↔ AngleFollows (feederCore s) := by
  simp [groupFails]

@[simp] theorem groupWatchFails_angle :
    AngleFollows (feederCore (groupWatchFails s)) ↔ AngleFollows (feederCore s) := by
  simp [groupWatchFails]

@[simp] theorem groupCloseFails_angle (tag : Option Nat) :
    AngleFollows (feederCore (groupCloseFails tag s)) ↔ AngleFollows (feederCore s) := by
  simp only [groupCloseFails]
  split <;> simp

@[simp] theorem groupClose_angle :
    AngleFollows (feederCore (groupClose s).1) ↔ AngleFollows (feederCore s) := by
  simp only [groupClose]
  (repeat' split) <;> simp

@[simp] theorem groupTrip_angle : AngleFollows (feederCore (groupTrip s)) ↔ AngleFollows (feederCore s) := by
  unfold groupTrip
  split <;> simp

/-! ### The rectifier's state and its held evaluations -/

@[simp] theorem rectEnter_angle (st : RectState) :
    AngleFollows (feederCore (rectEnter st s)) ↔ AngleFollows (feederCore s) := setRct_angle rfl rfl

@[simp] theorem enterRestoring_angle :
    AngleFollows (feederCore (enterRestoring s)) ↔ AngleFollows (feederCore s) := by
  simp [enterRestoring]

@[simp] theorem noticeEmptied_angle (b : State) :
    AngleFollows (feederCore (noticeEmptied b s)) ↔ AngleFollows (feederCore s) := by
  unfold noticeEmptied openPendingEmptied
  (repeat' split) <;> simp

@[simp] theorem startHeld_angle : AngleFollows (feederCore (startHeld s)) ↔ AngleFollows (feederCore s) :=
  setRct_angle rfl rfl

@[simp] theorem rctPointStale_angle (p : Fin 32) :
    AngleFollows (feederCore (rctPointStale p s)) ↔ AngleFollows (feederCore s) := by
  unfold rctPointStale
  split <;> simp

/-! ### Feeder trips -/

@[simp] theorem announceTrip_angle (f : Fin 8) (t : TripRecord) :
    AngleFollows (feederCore (announceTrip f t s)) ↔ AngleFollows (feederCore s) := by
  simp [announceTrip]

@[simp] theorem transferTripOut_angle (f : Fin 8) (l : List Cause) :
    AngleFollows (feederCore (transferTripOut f l s)) ↔ AngleFollows (feederCore s) := by
  unfold transferTripOut
  (repeat' split) <;> simp

@[simp] theorem selfTrip_angle (f : Fin 8) :
    AngleFollows (feederCore (selfTrip f s)) ↔ AngleFollows (feederCore s) := by
  simp [selfTrip]

@[simp] theorem tripOpened_angle (f : Fin 8) :
    AngleFollows (feederCore (tripOpened f s)) ↔ AngleFollows (feederCore s) := by
  simp [tripOpened]

@[simp] theorem feederReport_angle (f : Fin 8) (w : Option Position) (r : StatusReport) :
    AngleFollows (feederCore (feederReport f w r s)) ↔ AngleFollows (feederCore s) := by
  simp only [feederReport, closingReport, closedReport, openingReport, closedReported]
  (repeat' split) <;> simp

end Keeps

section Operations

variable {s : State} (h : AngleFollows (feederCore s))

/-! ### Operations that set the demand -/

/-- The RAMP phase begins with the angle of its first demand (R61). -/
@[simp] theorem beginRamp_angle (b : Rect) : AngleFollows (feederCore (beginRamp b s)) := by
  simp [beginRamp]

/-- A stopped rectifier has neither demand nor angle (R68). -/
@[simp] theorem rectStops_angle (c : Cause) (t : Option Nat) : AngleFollows (feederCore (rectStops c t s)) := by
  simp only [rectStops, logRectStop, rectNotify_core, logEvent_core, sendSetpoints_core]
  exact setHalted_angle rfl rfl

/-- An evaluation takes the angle from the demand it forms (R53, R54). -/
@[simp] theorem rectEvaluate_angle (v i : Int) : AngleFollows (feederCore (rectEvaluate v i s)) := by
  simp only [rectEvaluate, sendSetpoints_core]
  split <;> simp

/-- A held evaluation takes the angle from the demand it holds (R59). -/
@[simp] theorem heldEvaluate_angle : AngleFollows (feederCore (heldEvaluate s)) := by
  simp [heldEvaluate]

include h

@[simp] theorem rectTrips_angle (c : Cause) : AngleFollows (feederCore (rectTrips c s)) := by
  simp only [rectTrips]
  (repeat' split) <;> simp [h]

@[simp] theorem phaseBack_angle (c : Cause) (i : Int) : AngleFollows (feederCore (phaseBack c i s)) := by
  simp only [phaseBack]
  split <;> simp [h]

@[simp] theorem phaseBackExpires_angle : AngleFollows (feederCore (phaseBackExpires s)) := by
  unfold phaseBackExpires
  split <;> simp [h]

@[simp] theorem rectCloseFailed_angle : AngleFollows (feederCore (rectCloseFailed s)) := by
  unfold rectCloseFailed
  split <;> simp [h]

@[simp] theorem rectStarts_angle (c : Cause) (t : Option Nat) : AngleFollows (feederCore (rectStarts c t s)) := by
  simp only [rectStarts]
  (repeat' split) <;> simp [h]

@[simp] theorem rectGroupReport_angle (p : Position) : AngleFollows (feederCore (rectGroupReport p s)) := by
  simp only [rectGroupReport]
  (repeat' split) <;> simp [h]

@[simp] theorem autoStart_angle (found : RectState) : AngleFollows (feederCore (autoStart found s)) := by
  simp only [autoStart]
  (repeat' split) <;> simp [h]

@[simp] theorem groupStatus_angle (p : Position) : AngleFollows (feederCore (groupStatus p s)) := by
  unfold groupStatus
  split <;> simp [h]

@[simp] theorem groupPresent_angle (p : Position) : AngleFollows (feederCore (groupPresent p s)) := by
  unfold groupPresent
  split <;> simp [h]

@[simp] theorem groupAccepted_angle (p : Position) : AngleFollows (feederCore (groupAccepted p s)) :=
  autoStart_angle (groupPresent_angle (groupStatus_angle h p) p) _

@[simp] theorem misfired_angle (n : Nat) : AngleFollows (feederCore (misfired n s)) := by
  simp only [misfired]
  (repeat' split) <;> simp [h]

/-! ### Feeders and slots -/

@[simp] theorem tripFeeder_angle (f : Fin 8) (t : TripRecord) : AngleFollows (feederCore (tripFeeder f t s)) := by
  simp [tripFeeder, h]

@[simp] theorem breakerFails_angle (f : Fin 8) : AngleFollows (feederCore (breakerFails f s)) := by
  simp [breakerFails, h]

@[simp] theorem acceptedStatus_angle (k : Fin 9) (r : StatusReport) :
    AngleFollows (feederCore (acceptedStatus k r s)) := by
  simp only [acceptedStatus]
  (repeat' split) <;> simp [h]

@[simp] theorem groupFailure_angle (c : BrkCmd) (tag : Nat) : AngleFollows (feederCore (groupFailure c tag s)) := by
  unfold groupFailure
  (repeat' split) <;> simp [h]

@[simp] theorem failureBranch_angle (k : Fin 9) (c : BrkCmd) (tag : Nat) :
    AngleFollows (feederCore (failureBranch k c tag s)) := by
  unfold failureBranch
  (repeat' split) <;> simp [h]

@[simp] theorem stateExpires_angle (f : Fin 8) : AngleFollows (feederCore (stateExpires f s)) := by
  unfold stateExpires closeExpires openingExpires deadTimeExpires remoteExpires
  split <;> simp [h]

@[simp] theorem stateTimeout_angle (f : Fin 8) (st : FeederState) :
    AngleFollows (feederCore (stateTimeout f st s)) := by
  unfold stateTimeout
  (repeat' split) <;> simp [h]

end Operations

/-! ### Runs over a list -/

/-- A run over a list keeps what each of its steps keeps. -/
theorem foldl_angle {α : Type} {f : State → α → State} (l : List α) {s : State}
    (hf : ∀ x a, AngleFollows (feederCore x) → AngleFollows (feederCore (f x a))) (h : AngleFollows (feederCore s)) :
    AngleFollows (feederCore (l.foldl f s)) :=
  List.foldlRecOn (motive := fun x => AngleFollows (feederCore x)) l f h fun x hx a _ => hf x a hx

/-- A run over a list changes nothing of it where none of its steps does. -/
theorem foldl_angle_iff {α : Type} {f : State → α → State} (l : List α) (s : State)
    (hf : ∀ x a, AngleFollows (feederCore (f x a)) ↔ AngleFollows (feederCore x)) :
    AngleFollows (feederCore (l.foldl f s)) ↔ AngleFollows (feederCore s) := by
  induction l generalizing s with
  | nil => exact Iff.rfl
  | cons a l ih => exact (ih _).trans (hf s a)

/-- The same for a run over the numbers of a bank. -/
theorem forEach_angle_iff {n : Nat} {f : Fin n → State → State} (s : State)
    (hf : ∀ i x, AngleFollows (feederCore (f i x)) ↔ AngleFollows (feederCore x)) :
    AngleFollows (feederCore (forEach n f s)) ↔ AngleFollows (feederCore s) :=
  foldl_angle_iff _ s fun x i => hf i x

section Keeps

variable (s : State)

/-! ### Measurement points -/

@[simp] theorem updatePoint_angle (p : Fin 32) (seq : BitVec 16) (raw : Int) :
    AngleFollows (feederCore (updatePoint p seq raw s)) ↔ AngleFollows (feederCore s) := by
  simp only [updatePoint, leaveStartSet, noteResync, noteOverflow]
  (repeat' split) <;> simp

@[simp] theorem takeSample_angle (f : RingFrame) :
    AngleFollows (feederCore (takeSample f s)) ↔ AngleFollows (feederCore s) :=
  foldl_angle_iff _ s fun x e => updatePoint_angle x e.1 _ e.2

@[simp] theorem pointStale_angle (p : Fin 32) :
    AngleFollows (feederCore (pointStale p s)) ↔ AngleFollows (feederCore s) := by
  simp [pointStale, withdrawPresentations]

@[simp] theorem clearMsu_angle (b : BitVec 24) :
    AngleFollows (feederCore (clearMsu b s)) ↔ AngleFollows (feederCore s) := by
  unfold clearMsu clearOverflows
  (repeat' split) <;> simp

/-! ### Pilot links -/

@[simp] theorem linkDown_angle (p : Port) (c : Cause) :
    AngleFollows (feederCore (linkDown p c s)) ↔ AngleFollows (feederCore s) := by
  simp only [linkDown, logEvent_core, clearSections]
  exact (forEach_angle_iff _ fun i x => by split <;> simp).trans (by simp)

@[simp] theorem applySection_angle (l : List PilotItem) (p : Port) (i : Fin 8) :
    AngleFollows (feederCore (applySection l p i s)) ↔ AngleFollows (feederCore s) := by
  simp only [applySection]
  (repeat' split) <;> simp

@[simp] theorem applyUnknown_angle (p : Port) (x : PilotItem) :
    AngleFollows (feederCore (applyUnknown p x s)) ↔ AngleFollows (feederCore s) := by
  simp only [applyUnknown, logUnknown]
  (repeat' split) <;> simp

@[simp] theorem applyFlag_angle (l : List PilotItem) (p : Port) (i : Fin 8) :
    AngleFollows (feederCore (applyFlag l p i s)) ↔ AngleFollows (feederCore s) := by
  simp only [applyFlag]
  (repeat' split) <;> simp

@[simp] theorem applyItems_angle (p : Port) (l : List PilotItem) :
    AngleFollows (feederCore (applyItems p l s)) ↔ AngleFollows (feederCore s) :=
  (foldl_angle_iff _ _ fun x i => applyFlag_angle x l p i).trans <|
    (foldl_angle_iff _ _ fun x e => applyUnknown_angle x p e).trans <|
      foldl_angle_iff _ s fun x i => applySection_angle x l p i

@[simp] theorem takeDown_angle (p : Port) (f : PilotFrame) :
    AngleFollows (feederCore (takeDown p f s)) ↔ AngleFollows (feederCore s) := by
  simp only [takeDown]
  split <;> simp

@[simp] theorem takeUp_angle (p : Port) (f : PilotFrame) :
    AngleFollows (feederCore (takeUp p f s)) ↔ AngleFollows (feederCore s) := by
  simp only [takeUp]
  (repeat' split) <;> simp

@[simp] theorem idConflicts_angle (p : Port) (n : Nat) :
    AngleFollows (feederCore (idConflicts p n s)) ↔ AngleFollows (feederCore s) := by
  simp only [idConflicts]
  (repeat' split) <;> simp

@[simp] theorem receivePilot_angle (p : Port) (l : List Byte) :
    AngleFollows (feederCore (receivePilot p l s)) ↔ AngleFollows (feederCore s) := by
  unfold receivePilot
  (repeat' split) <;> simp

@[simp] theorem silenceExpires_angle (p : Port) :
    AngleFollows (feederCore (silenceExpires p s)) ↔ AngleFollows (feederCore s) := by
  simp only [silenceExpires]
  split <;> simp

/-! ### The test circuit -/

@[simp] theorem enterMeasuring_angle (r : TestRecord) :
    AngleFollows (feederCore (enterMeasuring r s)) ↔ AngleFollows (feederCore s) := Iff.rfl

/-! ### The settings store -/

@[simp] theorem nextWrite_angle : AngleFollows (feederCore (nextWrite s)) ↔ AngleFollows (feederCore s) := by
  unfold nextWrite beginFlagsWrite
  (repeat' split) <;> simp

@[simp] theorem requestImageWrite_angle :
    AngleFollows (feederCore (requestImageWrite s)) ↔ AngleFollows (feederCore s) := by
  unfold requestImageWrite
  split <;> simp

@[simp] theorem commitFails_angle (b : BaseSettings) (r : Reason) :
    AngleFollows (feederCore (commitFails b r s)) ↔ AngleFollows (feederCore s) := by
  simp [commitFails]

@[simp] theorem flagsWriteFails_angle :
    AngleFollows (feederCore (flagsWriteFails s)) ↔ AngleFollows (feederCore s) := by
  simp only [flagsWriteFails]
  split <;> simp

/-! ### The ring port -/

@[simp] theorem badFrame_angle : AngleFollows (feederCore (badFrame s)) ↔ AngleFollows (feederCore s) := by
  simp only [badFrame]
  split <;> simp

@[simp] theorem forwardFrame_angle (f : RingFrame) :
    AngleFollows (feederCore (forwardFrame f s)) ↔ AngleFollows (feederCore s) := by
  simp only [forwardFrame]
  (repeat' split) <;> simp

@[simp] theorem handOver_angle (f : RingFrame) :
    AngleFollows (feederCore (handOver f s)) ↔ AngleFollows (feederCore s) := by
  unfold handOver
  (repeat' split) <;> simp

@[simp] theorem dispose_angle (f : RingFrame) :
    AngleFollows (feederCore (dispose f s)) ↔ AngleFollows (feederCore s) := by
  unfold dispose
  (repeat' split) <;> simp

end Keeps

/-! ### The switch of the in-use image (R155) -/

section Switch

variable {s : State} (old : Image)

@[simp] theorem switchGate_angle (u : GateUnit) :
    AngleFollows (feederCore (switchGate old u s)) ↔ AngleFollows (feederCore s) := by
  simp only [switchGate]
  split <;> simp

@[simp] theorem switchBus_angle : AngleFollows (feederCore (switchBus old s)) ↔ AngleFollows (feederCore s) := by
  unfold switchBus
  (repeat' split) <;> simp

/-- RCT takes the angle of its clamped demand from the new firing table (R69), whatever the angle was before. -/
theorem switchRct_angle : AngleFollows (feederCore (switchRct old s)) := by
  have hbus : AngleFollows (feederCore (switchBus old (sendSetpoints (switchGate old .b (switchGate old .a
      (s.setRct (withDemand s.img (clampedDemands s.img.rect s.rct).out (clampedDemands s.img.rect s.rct)))))))) := by
    simp
  simp only [switchRct, switchPhaseBack]
  split
  · exact phaseBackExpires_angle hbus
  · exact hbus

variable (h : AngleFollows (feederCore s))
include h

theorem switchTimers_angle (f : Fin 8) : AngleFollows (feederCore (switchTimers f s)) := by
  simp only [switchTimers]
  (repeat' split) <;> simp [h]

theorem switchFeeder_angle (f : Fin 8) : AngleFollows (feederCore (switchFeeder old f s)) := by
  simp only [switchFeeder, putInService]
  (repeat' split) <;> simp [h, switchTimers_angle]

theorem switchFsq_angle : AngleFollows (feederCore (switchFsq old s)) :=
  foldl_angle _ (fun _ f hx => switchFeeder_angle old hx f) ((setFsq_angle _ _).mpr h)

theorem switchLtu_angle : AngleFollows (feederCore (switchLtu old s)) := by
  simp only [switchLtu, switchSettle]
  (repeat' split) <;> simp [h]

end Switch

/-- After a switch the angle is that of the output demand under the new image. -/
@[simp] theorem switchImage_angle (new : Image) (s : State) : AngleFollows (feederCore (switchImage new s)) := by
  simp only [switchImage, arbitrate_core, deadTimeLooks_core, presentLinks_core]
  exact switchLtu_angle _ (switchFsq_angle _ (switchRct_angle _))

/-- A verified commit ends with the switch to the candidate (R153). -/
@[simp] theorem commitDone_angle (m : Image) (s : State) : AngleFollows (feederCore (commitDone m s)) := by
  simp [commitDone]

@[simp] theorem revertImage_angle (c : Cause) (s : State) : AngleFollows (feederCore (revertImage c s)) := by
  simp [revertImage]

/-! ### Resets -/

section Resets

variable {s : State}

/-- A cold reset leaves neither demand nor angle (R70). -/
theorem coldStart_angle (straps : Byte) (key : KeyPos) (imageCheck flagsCheck : Bool) :
    AngleFollows (feederCore (coldStart straps key imageCheck flagsCheck s)) := by
  have hcold : ∀ x l n, AngleFollows (feederCore (coldState straps x l n)) := fun _ _ _ => rfl
  simp only [coldStart, latchAll, setRecs_angle, coldContactors]
  refine (forEach_angle_iff _ fun k x => by split <;> simp).mpr ?_
  simp only [noteFlags, noteStore, noteStraps]
  (repeat' split) <;> simp [hcold]

variable (h : AngleFollows (feederCore s))
include h

theorem reissueOne_angle (k : Fin 9) (g : CmdGroup) : AngleFollows (feederCore (reissueOne k g s)) := by
  simp only [reissueOne]
  (repeat' split) <;> simp [h]

theorem reissueSlot_angle (k : Fin 9) : AngleFollows (feederCore (reissueSlot k s)) := by
  unfold reissueSlot
  split
  · exact reissueOne_angle (reissueOne_angle h _ _) _ _
  · exact reissueOne_angle (reissueOne_angle h _ _) _ _

@[simp] theorem warmRestart_angle : AngleFollows (feederCore (warmRestart s)) := by
  have hwarm : AngleFollows (feederCore (warmStart s)) :=
    foldl_angle _ (fun _ k hx => reissueSlot_angle hx k) h
  simp only [warmRestart]
  split
  · exact revertImage_angle .restart _
  · simpa using hwarm

end Resets

/-! ### Requests -/

section Owners

variable {s : State} (h : AngleFollows (feederCore s))
include h

@[simp] theorem setPermit_angle (f : Fin 8) (v : Bool) : AngleFollows (feederCore (setPermit f v s)) := by
  simp [setPermit, h]

theorem feederCloseOwner_angle (f : Fin 8) : AngleFollows (feederCore (feederCloseOwner f s).1) := by
  simp only [feederCloseOwner]
  (repeat' split) <;> simp [h]

omit h in
/-- An opening keeps the core. -/
theorem feederOpened_core {t : State} {f : Fin 8} (ht : feederOpened f s = some t) : feederCore t = feederCore s := by
  unfold feederOpened at ht
  split at ht <;> cases ht <;> simp

theorem feederOpenOwner_angle (f : Fin 8) : AngleFollows (feederCore (feederOpenOwner f s).1) := by
  unfold feederOpenOwner refuse
  split
  case h_1 t ht => exact feederOpened_core ht ▸ h
  case h_2 => exact h

theorem resetLockoutOwner_angle (f : Fin 8) : AngleFollows (feederCore (resetLockoutOwner f s).1) := by
  simp only [resetLockoutOwner, refuse]
  split <;> simp [h]

theorem resetBfOwner_angle (f : Fin 8) : AngleFollows (feederCore (resetBfOwner f s).1) := by
  unfold resetBfOwner refuse
  split <;> simp [h]

theorem maskOwner_angle (b : Byte) (v : Bool) : AngleFollows (feederCore (maskOwner b v s).1) := by
  simp [maskOwner, setMasks, h]

theorem groupSelectOwner_angle (sel : Selection) (f : Fin 8) :
    AngleFollows (feederCore (groupSelectOwner sel f s).1) := by
  simp [groupSelectOwner, h]

theorem rectStartOwner_angle (tag : Byte) : AngleFollows (feederCore (rectStartOwner tag s).1) := by
  unfold rectStartOwner
  (repeat' split) <;> simp [h]

theorem rectStopOwner_angle (tag : Byte) : AngleFollows (feederCore (rectStopOwner tag s).1) := by
  unfold rectStopOwner
  (repeat' split) <;> simp [h]

theorem rectResetOwner_angle (tag : Byte) : AngleFollows (feederCore (rectResetOwner tag s).1) := by
  unfold rectResetOwner
  split <;> simp [h]

theorem testCircuitResetOwner_angle (tag : Byte) : AngleFollows (feederCore (testCircuitResetOwner tag s).1) := by
  unfold testCircuitResetOwner
  (repeat' split) <;> simp [h]

theorem timeSetOwner_angle (tag : Byte) (n : BitVec 48) : AngleFollows (feederCore (timeSetOwner tag n s).1) := by
  simp [timeSetOwner, h]

theorem restartOwner_angle (tag : Byte) : AngleFollows (feederCore (restartOwner tag s).1) := by
  simp only [restartOwner]
  split <;> simp [h]

theorem stageWriteOwner_angle (t e : Byte) (l : List (BitVec 32)) :
    AngleFollows (feederCore (stageWriteOwner t e l s).1) := by
  simp only [stageWriteOwner, refuse]
  (repeat' split) <;> simp [h]

theorem commitOwner_angle (tag : Byte) : AngleFollows (feederCore (commitOwner tag s).1) := by
  simp only [commitOwner, refuse]
  (repeat' split) <;> simp [h]

theorem applyTrialOwner_angle (tag : Byte) : AngleFollows (feederCore (applyTrialOwner tag s).1) := by
  simp only [applyTrialOwner, refuse]
  (repeat' split) <;> simp [h]

theorem revertTrialOwner_angle : AngleFollows (feederCore (revertTrialOwner s).1) := by
  unfold revertTrialOwner
  split <;> simp [h]

theorem clearAlarmsOwner_angle (tag : Byte) (b : BitVec 24) :
    AngleFollows (feederCore (clearAlarmsOwner tag b s).1) := by
  simp only [clearAlarmsOwner]
  split <;> simp [h]

theorem enableOwner_angle (tag : Byte) (b : BitVec 24) : AngleFollows (feederCore (enableOwner tag b s).1) := by
  simp [enableOwner, h]

theorem captureTriggerOwner_angle : AngleFollows (feederCore (captureTriggerOwner s).1) := by
  simp [captureTriggerOwner, h]

theorem readCaptureOwner_angle (g : Byte) (n : BitVec 16) (c : Byte) :
    AngleFollows (feederCore (readCaptureOwner g n c s).1) := by
  unfold readCaptureOwner refuse readOut
  (repeat' split) <;> simp [h]

theorem readCaptureNextOwner_angle (c : Byte) : AngleFollows (feederCore (readCaptureNextOwner c s).1) := by
  unfold readCaptureNextOwner refuse readOut
  (repeat' split) <;> simp [h]

theorem captureReleaseOwner_angle (g : Byte) : AngleFollows (feederCore (captureReleaseOwner g s).1) := by
  unfold captureReleaseOwner refuse
  (repeat' split) <;> simp [h]

theorem snapshotOwner_angle : AngleFollows (feederCore (snapshotOwner s).1) := by
  unfold snapshotOwner refuse
  split <;> simp [h]

theorem readSnapshotOwner_angle : AngleFollows (feederCore (readSnapshotOwner s).1) := by
  unfold readSnapshotOwner
  split <;> simp [h]

end Owners

/-! ### Commands -/

/-- Every next state of an outcome has the angle of its output demand. -/
def OutcomeFollows (o : Host.Outcome State Fault Refusal) : Prop := ∀ t, o = .next t → AngleFollows (feederCore t)

@[simp] theorem finish_angle (s t : State) : OutcomeFollows (finish s t) ↔ AngleFollows (feederCore t) := by
  simp [OutcomeFollows, finish]

section Rows

variable {s : State} (h : AngleFollows (feederCore s))
include h

/-- A request keeps what its owner keeps. -/
theorem serve_angle {q : Request} {src tag : Byte} {args : List Byte} {owner : State → State × Reply}
    (howner : ∀ x, AngleFollows (feederCore x) → AngleFollows (feederCore (owner x).1)) :
    OutcomeFollows (serve q src tag args owner s) := by
  have htaken := howner _ ((takeRequest_angle s src tag (codeOf q) args).mpr h)
  simp only [serve, finish_angle, answerRequest]
  (repeat' split) <;> simp [h, htaken]

theorem serve_readOnly_angle {q : Request} {src tag : Byte} {args : List Byte} {body : State → Reply} :
    OutcomeFollows (serve q src tag args (readOnly body) s) := serve_angle h fun _ hx => hx

theorem serve_onFeeder_angle {q : Request} {src tag b : Byte} {args : List Byte}
    {act : Fin 8 → State → State × Reply}
    (hact : ∀ f x, AngleFollows (feederCore x) → AngleFollows (feederCore (act f x).1)) :
    OutcomeFollows (serve q src tag args (onFeeder b act) s) :=
  serve_angle h fun x hx => by
    unfold onFeeder refuse
    split
    · exact hact _ x hx
    · exact hx

theorem execGateStatus_angle (f : RingFrame) : OutcomeFollows (execGateStatus f s) := by
  have htaken : AngleFollows (feederCore (s.setRct { s.rct with frames := s.rct.frames.erase f })) := by simp [h]
  simp only [execGateStatus]
  split
  · rw [finish_angle]
    refine misfired_angle ?_ _
    rw [noteGateFaults_core]
    exact (setRct_angle (setGate_out _ _ _) (setGate_alpha _ _ _)).mpr htaken
  · exact (finish_angle _ _).mpr htaken

theorem execCommitCompletion_angle (verified : Bool) : OutcomeFollows (execCommitCompletion verified s) := by
  unfold execCommitCompletion
  split
  case h_1 _ t0 m _ _ _ _ =>
    split
    · cases hchecks : changeChecks (s.reach (t0 + 150000)) m with
      | none => simp [hchecks]
      | some => simp [hchecks, h]
    · simp [h]
  case h_2 => simp [h]

/-- Every command keeps the angle in force the angle of the output demand. A request does so by its owner's part; of the
other commands each branch is one of the operations above, or changes nothing of the rectifier's record and of the in-use
image. -/
theorem exec_angle (c : Instr) : OutcomeFollows (exec c s) := by
  cases c with
  | coldReset => exact (finish_angle _ _).mpr (coldStart_angle _ _ _ _)
  | settingsKey => simp only [exec, execSettingsKey]; split <;> simp [h]
  | reception => simp only [exec, execReception]; split <;> simp [h]
  | transmissionEnd => simp only [exec, execTransmissionEnd]; split <;> simp [h]
  | ringWindowEnd => simp only [exec, execRingWindowEnd]; split <;> simp [h]
  | sampleFrame => simp only [exec, execSampleFrame]; split <;> simp [h]
  | freshnessTimeout => simp only [exec, execFreshnessTimeout]; split <;> simp [h]
  | startTimeout => simp only [exec, execStartTimeout]; (repeat' split) <;> simp [h]
  | feederEvaluation => simp only [exec, execFeederEvaluation]; (repeat' split) <;> simp [h]
  | lineVoltagePresentation => simp only [exec, execLineVoltagePresentation]; (repeat' split) <;> simp [h]
  | undervoltageTimerExpiry => simp only [exec, execUndervoltageTimerExpiry]; split <;> simp [h]
  | lossTimerExpiry => simp only [exec, execLossTimerExpiry]; (repeat' split) <;> simp [h]
  | rectifierEvaluation => simp only [exec, execRectifierEvaluation]; (repeat' split) <;> simp [h]
  | heldEvaluation => simp only [exec, execHeldEvaluation]; (repeat' split) <;> simp [h]
  | busLossTimeout => simp only [exec, execBusLossTimeout]; split <;> simp [h]
  | phaseBackTimeout => simp only [exec, execPhaseBackTimeout]; split <;> simp [h]
  | gateStatus => exact execGateStatus_angle h _
  | gateSilenceTimeout => simp only [exec, execGateSilenceTimeout]; split <;> simp [h]
  | syncTimeout => simp only [exec, execSyncTimeout]; split <;> simp [h]
  | misfireAgeExpiry => simp only [exec, execMisfireAgeExpiry]; split <;> simp [h]
  | breakerStatus => simp only [exec, execBreakerStatus]; split <;> simp [h]
  | slotFreshnessTimeout => simp only [exec, execSlotFreshnessTimeout]; split <;> simp [h]
  | noStatusTimeout => simp [exec, execNoStatusTimeout, h]
  | commandLost => simp only [exec, execCommandLost]; (repeat' split) <;> simp [h]
  | tripRepeat => simp only [exec, execTripRepeat]; (repeat' split) <;> simp [h]
  | closeTimeout => simp [exec, execCloseTimeout, h]
  | openWatchExpiry => simp only [exec, execOpenWatchExpiry]; (repeat' split) <;> simp [h]
  | breakerFail => simp [exec, execBreakerFail, h]
  | openingTimeout => simp [exec, execOpeningTimeout, h]
  | deadTimeEnd => simp [exec, execDeadTimeEnd, h]
  | remoteTimeout => simp [exec, execRemoteTimeout, h]
  | reclaimEnd => simp only [exec, execReclaimEnd]; split <;> simp [h]
  | groupCloseTimeout => simp only [exec, execGroupCloseTimeout]; split <;> simp [h]
  | groupOpenWatchExpiry => simp only [exec, execGroupOpenWatchExpiry]; (repeat' split) <;> simp [h]
  | groupTripTimeout => simp only [exec, execGroupTripTimeout]; split <;> simp [h]
  | tripDemandTaken => simp only [exec, execTripDemandTaken]; (repeat' split) <;> simp [h]
  | intertripDemandTaken => simp only [exec, execIntertripDemandTaken]; (repeat' split) <;> simp [h]
  | testMeasurementPresentation => simp only [exec, execTestMeasurementPresentation]; split <;> simp [h]
  | settleEnd => simp only [exec, execSettleEnd]; (repeat' split) <;> simp [h]
  | contactorTimeout => simp only [exec, execContactorTimeout]; (repeat' split) <;> simp [h]
  | strayContactorTimeout => simp only [exec, execStrayContactorTimeout]; (repeat' split) <;> simp [h]
  | captureRow => simp only [exec, execCaptureRow]; (repeat' split) <;> simp [h]
  | pilotFrame => simp only [exec, execPilotFrame]; split <;> simp [h]
  | pilotFrameSend => simp only [exec, execPilotFrameSend, sendPilot]; split <;> simp [h]
  | pilotSilenceTimeout => simp only [exec, execPilotSilenceTimeout]; split <;> simp [h]
  | graceTimerExpiry => simp only [exec, execGraceTimerExpiry]; split <;> simp [h]
  | transferTripHoldEnd => simp only [exec, execTransferTripHoldEnd]; split <;> simp [h]
  | commitCompletion => exact execCommitCompletion_angle h _
  | flagsWriteEnd => simp only [exec, execFlagsWriteEnd]; (repeat' split) <;> simp [h]
  | stationReport => simp only [exec, execStationReport]; split <;> simp [h]
  | malformedRequest => simp [exec, execMalformedRequest, h]
  | badRequest => simp only [exec, execBadRequest]; split <;> simp [h]
  | identify => exact serve_readOnly_angle h
  | readStatus => exact serve_readOnly_angle h
  | timeSet => exact serve_angle h fun _ hx => timeSetOwner_angle hx _ _
  | restart => exact serve_angle h fun _ hx => restartOwner_angle hx _
  | feederClose => exact serve_onFeeder_angle h fun f _ hx => feederCloseOwner_angle hx f
  | feederOpen => exact serve_onFeeder_angle h fun f _ hx => feederOpenOwner_angle hx f
  | resetLockout => exact serve_onFeeder_angle h fun f _ hx => resetLockoutOwner_angle hx f
  | resetBf => exact serve_onFeeder_angle h fun f _ hx => resetBfOwner_angle hx f
  | maskSet => exact serve_angle h fun _ hx => maskOwner_angle hx _ _
  | maskClear => exact serve_angle h fun _ hx => by simpa using maskOwner_angle hx _ _
  | workPermitSet => exact serve_onFeeder_angle h fun f _ hx => setPermit_angle hx f _
  | workPermitClear => exact serve_onFeeder_angle h fun f _ hx => by simpa using setPermit_angle hx f _
  | readFeeder => exact serve_readOnly_angle h
  | groupSelect =>
    exact serve_onFeeder_angle h fun f _ hx => by
      split
      · exact groupSelectOwner_angle hx _ f
      · exact hx
  | rectStart => exact serve_angle h fun _ hx => rectStartOwner_angle hx _
  | rectStop => exact serve_angle h fun _ hx => rectStopOwner_angle hx _
  | rectReset => exact serve_angle h fun _ hx => rectResetOwner_angle hx _
  | testCircuitReset => exact serve_angle h fun _ hx => testCircuitResetOwner_angle hx _
  | stageWrite =>
    simp only [exec, execStageWrite]
    split
    · exact serve_angle h fun _ hx => stageWriteOwner_angle hx _ _ _
    · simp [h]
  | stageRead => exact serve_readOnly_angle h
  | stageDiscard => exact serve_angle h fun _ hx => (setSst_angle _ rfl).mpr hx
  | readSettings => exact serve_readOnly_angle h
  | commit => exact serve_angle h fun _ hx => commitOwner_angle hx _
  | applyTrial => exact serve_angle h fun _ hx => applyTrialOwner_angle hx _
  | revertTrial => exact serve_angle h fun _ hx => revertTrialOwner_angle hx
  | readEvents => exact serve_readOnly_angle h
  | readAlarms => exact serve_readOnly_angle h
  | clearAlarms => exact serve_angle h fun _ hx => clearAlarmsOwner_angle hx _ _
  | alarmEnableSet => exact serve_angle h fun _ hx => enableOwner_angle hx _ _
  | alarmEnableClear => exact serve_angle h fun _ hx => enableOwner_angle hx _ _
  | captureTrigger => exact serve_angle h fun _ hx => captureTriggerOwner_angle hx
  | readCapture => exact serve_angle h fun _ hx => readCaptureOwner_angle hx _ _ _
  | readCaptureNext => exact serve_angle h fun _ hx => readCaptureNextOwner_angle hx _
  | captureRelease => exact serve_angle h fun _ hx => captureReleaseOwner_angle hx _
  | snapshot => exact serve_angle h fun _ hx => snapshotOwner_angle hx
  | readSnapshot => exact serve_angle h fun _ hx => readSnapshotOwner_angle hx

end Rows

/-! ### The obligation -/

/-- Settles O22: the interpolation by its formula on one segment, the order of the angles by one step of demand after
another, and the angle in force by what each command writes. -/
theorem firingAngleInterpolatesWithCeiling : Obligations.FiringAngleInterpolatesWithCeiling := by
  unfold Obligations.FiringAngleInterpolatesWithCeiling
  refine ⟨?_, firingAngle_last, ?_, fun c s t h ht => ?_⟩
  · rintro m j f a b hj hf hf' rfl rfl
    refine ⟨?_, firingAngle_between m hj hf hf'⟩
    rintro rfl
    rw [add_zero]
    exact firingAngle_tabled m hj.le
  · intro m d1 d2 hm h0 h12 h2
    have hfirst : firingAngle m 0 = m.firing[(0 : Fin 33)] :=
      (firingAngle_tabled m (Nat.zero_le 32)).trans (tabledAngle_eq m 0)
    refine ⟨firingAngle_antitone hm h0 h12 h2, ?_, ?_⟩
    · exact firingAngle_antitone hm (h0.trans h12) h2 le_rfl
    · exact hfirst ▸ firingAngle_antitone hm le_rfl h0 (h12.trans h2)
  · exact (angleFollows_iff t).mp (exec_angle ((angleFollows_iff s).mpr h) c t ht)

end Sys2Proof.Machine
end
